-- ==== Sys2Proof/Word.lean ====
section
/-! DEFINITION. The word types of the machine (R6) and their plainest arithmetic.
Registers and memory cells are 8-bit, the program counter and data addresses are 16-bit; arithmetic wraps. -/

namespace Sys2Proof

/-- An 8-bit value: a register, a memory cell, a byte of the cartridge (R6, R10 to R14, R17). -/
abbrev Byte := BitVec 8

/-- A 16-bit value: the program counter or a data address (R6, R16, R17). -/
abbrev Addr := BitVec 16

/-- `u8(v) = v mod 256` (R6). -/
def u8 (v : Nat) : Byte := BitVec.ofNat 8 v

end Sys2Proof
end

