-- ==== Sys2Proof/Config.lean ====
section
/-! DEFINITION. What is fixed for one machine: the parameters of R5.
The constants of R5 that have a value stand here as definitions. Its two parameters of status OPEN (`CYCLES`,
`PLA_UPDATES_ZN`) are arguments of the model: the record `Parameters`, carried by State as plain data, constant along
every run. Every claim about State therefore holds for every value of both. -/

namespace Sys2Proof

/-- The OPEN parameters of R5. Rules R56 (`CYCLES`) and R118 (`PLA_UPDATES_ZN`) say how each is used. -/
structure Parameters where
  /-- `PLA_UPDATES_ZN` (R118, decision D11): whether PLA writes the flags Z and N. -/
  plaUpdatesZN : Bool
  /-- `CYCLES[opcode]` (R56, decision D12): the cycle cost of each opcode byte, 16 rows of 16 entries as the dispatch
  table has them (R53). Only the entries of the 57 implemented bytes are ever read. -/
  cycles : Vector (Vector Nat 16) 16
  deriving DecidableEq, Repr

/-- The cycle cost the table records for an opcode byte (R56): row `opcode[7:4]`, column `opcode[3:0]`. -/
def Parameters.cost (p : Parameters) (opcode : Byte) : Nat :=
  (p.cycles[opcode.toNat / 16]'(Nat.div_lt_of_lt_mul (show opcode.toNat < 16 * 16 from opcode.isLt)))[opcode.toNat % 16]'
    (Nat.mod_lt _ (by decide))

namespace Config

/-- `RESET_PC` (R5, R16, R180). -/
def resetPC : Addr := 0xC000

/-- `RESET_SP` (R5, R13, R180). -/
def resetSP : Byte := 0xFD

/-- `RESET_P` (R5, R14, R180): InterruptDisable and the reserved bit set. -/
def resetP : Byte := 0x24

/-- `MEM_SIZE` (R5, R17): the number of data memory cells. -/
def memSize : Nat := 65536

/-- `PRG_UNIT` (R5, R36). -/
def prgUnit : Nat := 16384

/-- `CHR_UNIT` (R5, R36). -/
def chrUnit : Nat := 8192

/-- `TRAINER_SIZE` (R5, R36). -/
def trainerSize : Nat := 512

/-- The length of the cartridge header (R20, R36). -/
def headerSize : Nat := 16

/-- `MAGIC` (R5, R36): the first four bytes of a cartridge file. -/
def magic : List Byte := [0x4E, 0x45, 0x53, 0x1A]

end Config

end Sys2Proof
end

