-- ==== Sys2Proof/Machine/Defaults.lean ====
section
/-! DEFINITION. The default values of the two OPEN parameters (R5): what the spec's test vectors use.
State.reset carries them; no meaning and no statement rests on them. -/

namespace Sys2Proof.Machine

/-- Default cycle costs of the opcode bytes 0x00 to 0x0F (R54); 0 stands at the unimplemented bytes, whose
entries are never read. -/
def cyclesRow0 : Vector Nat 16 := #v[0, 0, 0, 0, 0, 0, 0, 0, 3, 0, 2, 0, 0, 0, 0, 0]

/-- Default cycle costs of the opcode bytes 0x10 to 0x1F (R54); 0 stands at the unimplemented bytes, whose
entries are never read. -/
def cyclesRow1 : Vector Nat 16 := #v[2, 0, 0, 0, 0, 0, 0, 0, 2, 0, 0, 0, 0, 0, 0, 0]

/-- Default cycle costs of the opcode bytes 0x20 to 0x2F (R54); 0 stands at the unimplemented bytes, whose
entries are never read. -/
def cyclesRow2 : Vector Nat 16 := #v[6, 0, 0, 0, 3, 0, 0, 0, 4, 0, 0, 0, 4, 0, 0, 0]

/-- Default cycle costs of the opcode bytes 0x30 to 0x3F (R54); 0 stands at the unimplemented bytes, whose
entries are never read. -/
def cyclesRow3 : Vector Nat 16 := #v[2, 0, 0, 0, 0, 0, 0, 0, 2, 0, 0, 0, 0, 0, 0, 0]

/-- Default cycle costs of the opcode bytes 0x40 to 0x4F (R54); 0 stands at the unimplemented bytes, whose
entries are never read. -/
def cyclesRow4 : Vector Nat 16 := #v[0, 0, 0, 0, 0, 0, 0, 0, 3, 0, 2, 0, 3, 0, 0, 0]

/-- Default cycle costs of the opcode bytes 0x50 to 0x5F (R54); 0 stands at the unimplemented bytes, whose
entries are never read. -/
def cyclesRow5 : Vector Nat 16 := #v[2, 0, 0, 0, 0, 0, 0, 0, 0, 0, 0, 0, 0, 0, 0, 0]

/-- Default cycle costs of the opcode bytes 0x60 to 0x6F (R54); 0 stands at the unimplemented bytes, whose
entries are never read. -/
def cyclesRow6 : Vector Nat 16 := #v[6, 0, 0, 0, 0, 3, 0, 0, 4, 2, 0, 0, 0, 4, 0, 0]

/-- Default cycle costs of the opcode bytes 0x70 to 0x7F (R54); 0 stands at the unimplemented bytes, whose
entries are never read. -/
def cyclesRow7 : Vector Nat 16 := #v[2, 0, 0, 0, 0, 0, 0, 0, 2, 0, 0, 0, 0, 0, 0, 0]

/-- Default cycle costs of the opcode bytes 0x80 to 0x8F (R54); 0 stands at the unimplemented bytes, whose
entries are never read. -/
def cyclesRow8 : Vector Nat 16 := #v[0, 0, 0, 0, 3, 3, 3, 0, 0, 0, 2, 0, 4, 4, 4, 0]

/-- Default cycle costs of the opcode bytes 0x90 to 0x9F (R54); 0 stands at the unimplemented bytes, whose
entries are never read. -/
def cyclesRow9 : Vector Nat 16 := #v[2, 0, 0, 0, 0, 0, 0, 0, 2, 0, 0, 0, 0, 0, 0, 0]

/-- Default cycle costs of the opcode bytes 0xA0 to 0xAF (R54); 0 stands at the unimplemented bytes, whose
entries are never read. -/
def cyclesRowA : Vector Nat 16 := #v[2, 0, 2, 0, 3, 3, 3, 0, 2, 2, 2, 0, 4, 4, 4, 0]

/-- Default cycle costs of the opcode bytes 0xB0 to 0xBF (R54); 0 stands at the unimplemented bytes, whose
entries are never read. -/
def cyclesRowB : Vector Nat 16 := #v[2, 0, 0, 0, 0, 0, 0, 0, 2, 0, 0, 0, 0, 0, 0, 0]

/-- Default cycle costs of the opcode bytes 0xC0 to 0xCF (R54); 0 stands at the unimplemented bytes, whose
entries are never read. -/
def cyclesRowC : Vector Nat 16 := #v[2, 0, 0, 0, 3, 3, 0, 0, 0, 2, 0, 0, 4, 4, 0, 0]

/-- Default cycle costs of the opcode bytes 0xD0 to 0xDF (R54); 0 stands at the unimplemented bytes, whose
entries are never read. -/
def cyclesRowD : Vector Nat 16 := #v[2, 0, 0, 0, 0, 0, 0, 0, 2, 0, 0, 0, 0, 0, 0, 0]

/-- Default cycle costs of the opcode bytes 0xE0 to 0xEF (R54); 0 stands at the unimplemented bytes, whose
entries are never read. -/
def cyclesRowE : Vector Nat 16 := #v[2, 0, 0, 0, 3, 0, 0, 0, 0, 0, 2, 0, 4, 0, 0, 0]

/-- Default cycle costs of the opcode bytes 0xF0 to 0xFF (R54); 0 stands at the unimplemented bytes, whose
entries are never read. -/
def cyclesRowF : Vector Nat 16 := #v[2, 0, 0, 0, 0, 0, 0, 0, 2, 0, 0, 0, 0, 0, 0, 0]

/-- The default `CYCLES` (R54, column "default cycles"; R56). -/
def defaultCycles : Vector (Vector Nat 16) 16 :=
  #v[cyclesRow0, cyclesRow1, cyclesRow2, cyclesRow3, cyclesRow4, cyclesRow5, cyclesRow6, cyclesRow7,
     cyclesRow8, cyclesRow9, cyclesRowA, cyclesRowB, cyclesRowC, cyclesRowD, cyclesRowE, cyclesRowF]

/-- The default parameters: `PLA_UPDATES_ZN` is true (R5, R118) and `CYCLES` is the table of R54. -/
def defaultParameters : Parameters := ⟨true, defaultCycles⟩

end Sys2Proof.Machine
end

