-- ==== Sys2Proof/Machine/State.lean ====
section
/-! DEFINITION. The state of the machine, its faults and refusals, and the state after reset (R10 to R29, R160, R180).
State is plain data. Memory and the cartridge's byte regions are lists of (address, byte) cells in one canonical form:
addresses strictly rising, no cell equal to 0x00, which is what an unlisted address reads as (R17: zero-initialized;
R29). -/

namespace Sys2Proof.Machine

/-- The data memory's cells (R17): an unlisted address below 65536 reads as 0x00. -/
abbrev Memory := List Host.Cell

/-- A byte region of a cartridge file (R20): its length and its bytes, those that are not 0x00 listed by offset. -/
structure Region where
  size : Nat
  cells : List Host.Cell
  deriving DecidableEq, Repr

/-- The Cartridge Image (R20). The fields R20 names beside these (prgRomSize, chrRomSize, flag6, flag7, prgRamSize,
flag9, flag10) are bytes 4 to 10 of `header` and are read from there (Machine/Cartridge.lean), so each has one home. -/
structure CartridgeImage where
  /-- The raw first 16 bytes of the file. -/
  header : Vector Byte 16
  /-- The optional 512 bytes after the header. -/
  trainer : Option Region
  /-- The program bytes: the only field an instruction fetch reads. -/
  prgRom : Region
  /-- The graphics bytes: nothing in the core reads them. -/
  chrRom : Region
  deriving DecidableEq, Repr

/-- The machine's state: the CPU State of R24, the Cartridge Image of R20 and the OPEN parameters of R5. -/
structure State where
  /-- The accumulator (R10). -/
  a : Byte
  /-- The index register X (R11). -/
  x : Byte
  /-- The index register Y (R12). -/
  y : Byte
  /-- The stack pointer (R13). -/
  sp : Byte
  /-- The status register, bits `N V R B D I Z C` from bit 7 down (R14). -/
  p : Byte
  /-- The program counter (R16). -/
  pc : Addr
  /-- The data memory (R17). -/
  mem : Memory
  /-- The cycle counter, an unbounded natural number (R18, decision D14). -/
  cycle : Nat
  /-- The transient flag `pc_set` (R19). -/
  pcSet : Bool
  /-- The cartridge image, none before any successful `Load` (R20, decision D19). -/
  cart : Option CartridgeImage
  /-- The OPEN parameters (R5): the model's own field, constant along every run. -/
  params : Parameters
  deriving DecidableEq, Repr

/-- The faults (R160): an operation that faults has no successor state, and the state stays as it was (R166). -/
inductive Fault where
  /-- R161. Raised by every meaning of an opcode with the unimplemented marker, on every path, and so by `step` and
  `Step(d)`. Safe: the spec itself names this fault. -/
  | unimplementedOpcode (opcode : Byte)
  /-- R162. Raised by the fetch of `step` when a byte of the instruction lies outside `prgRom`; it carries the offset.
  Safe: the spec itself names this fault. -/
  | outOfRange (offset : Int)
  /-- R163. Raised by `Load` on a malformed or truncated file. Safe: the spec itself names this fault. -/
  | formatError
  deriving DecidableEq, Repr

/-- The refusals: inputs the model gives no step. -/
inductive Refusal where
  /-- Raised by an arm of exec that has no meaning yet. No arm does. Safe. -/
  | notModelled (mnemonic : String)
  /-- R27, decision D17. Raised by `Step(d)` for a descriptor that is not well-formed. Safe: the spec refuses it too. -/
  | malformedDescriptor
  deriving DecidableEq, Repr

/-- What an operation of the machine answers. -/
abbrev Result := Host.Outcome State Fault Refusal

/-- The state after reset (R25, R180), before any `Load`, with the default parameters (R5). -/
def State.reset : State where
  a := 0x00
  x := 0x00
  y := 0x00
  sp := Config.resetSP
  p := Config.resetP
  pc := Config.resetPC
  mem := []
  cycle := 0
  pcSet := false
  cart := none
  params := defaultParameters

end Sys2Proof.Machine
end

