-- ==== Sys2Proof/Machine/Flags.lean ====
section
/-! DEFINITION. The Bit Utilities and every flag computation (R14, R85 to R94). -/

namespace Sys2Proof.Machine

/-! ### The Bit Utilities (R85): pure functions on an integer and a bit index; they do not truncate -/

/-- `check(v, i) = v AND 2^i`: not normalised, any non-zero result means set (R85). -/
def BitUtil.check (v i : Nat) : Nat := v &&& 2 ^ i

/-- `set(v, i) = v OR 2^i` (R85). -/
def BitUtil.set (v i : Nat) : Nat := v ||| 2 ^ i

/-- `clear(v, i) = v AND NOT 2^i`: `v` with bit `i` forced to 0, other bits kept (R85). -/
def BitUtil.clear (v i : Nat) : Nat := v ^^^ (v &&& 2 ^ i)

/-- `copy(src, dst, i)`: `dst` with its bit `i` forced to match `src` (R85). -/
def BitUtil.copy (src dst i : Nat) : Nat :=
  if BitUtil.check src i ≠ 0 then BitUtil.set dst i else BitUtil.clear dst i

/-! ### The flags of `P` (R14) -/

/-- The eight bits of `P` by name (R7, R14): Carry, Zero, InterruptDisable, Decimal, Break, Reserved, Overflow,
Negative. -/
inductive Flag where
  | c | z | i | d | b | r | v | n
  deriving DecidableEq, Repr

/-- The place of a flag in `P`, low to high (R14). -/
def Flag.bit : Flag → Nat
  | .c => 0
  | .z => 1
  | .i => 2
  | .d => 3
  | .b => 4
  | .r => 5
  | .v => 6
  | .n => 7

/-- The value of a flag in a status byte. -/
def flagOf (p : Byte) (f : Flag) : Bool := p.getLsbD f.bit

/-- The value of a flag of the machine. -/
def State.flag (s : State) (f : Flag) : Bool := flagOf s.p f

/-- The carry flag as 0 or 1 (R88). -/
def State.carry (s : State) : Nat := (s.flag .c).toNat

/-- `P.f <- 1`, that is `P <- set(P, i)` (R120). -/
def setFlag (p : Byte) (f : Flag) : Byte := u8 (BitUtil.set p.toNat f.bit)

/-- `P.f <- 0`, that is `P <- clear(P, i)` (R121). -/
def clearFlag (p : Byte) (f : Flag) : Byte := u8 (BitUtil.clear p.toNat f.bit)

/-- `P.f <- v`: an assignment both ways (R86). -/
def assignFlag (p : Byte) (f : Flag) (v : Bool) : Byte := if v then setFlag p f else clearFlag p f

/-- `P.f <- src[f]`: the flag's own bit copied from another byte (R94, decision D27). -/
def copyFlag (src p : Byte) (f : Flag) : Byte := u8 (BitUtil.copy src.toNat p.toNat f.bit)

/-! ### The flag helpers -/

/-- `SetZero(v)` (R86): Z from the 8-bit truncation of `v`. -/
def setZero (v : Nat) (p : Byte) : Byte := assignFlag p .z (u8 v == 0x00)

/-- `SetNegative(v)` (R86): N from bit 7 of the 8-bit truncation of `v`. -/
def setNegative (v : Nat) (p : Byte) : Byte := assignFlag p .n ((u8 v).getLsbD 7)

/-- `SetZN(v)`, the source's setZeroAndNegative (R86). -/
def setZN (v : Nat) (p : Byte) : Byte := setNegative v (setZero v p)

/-- `Compare(r, m)` (R87): Z and N from the wrapped difference, C iff `r >= m` unsigned. -/
def compareFlags (r m p : Byte) : Byte :=
  assignFlag (setZN (r - m).toNat p) .c (decide (m.toNat ≤ r.toNat))

/-- `raw` of ADC (R88): the integer sum, not wrapped. -/
def adcRaw (a m : Byte) (carry : Nat) : Nat := a.toNat + m.toNat + carry

/-- ADC's overflow (R88): the operands' bits 7 agree and differ from bit 7 of the raw sum (decision D28). -/
def adcOverflow (a m : Byte) (raw : Nat) : Bool :=
  (a.getLsbD 7 == m.getLsbD 7) && (raw.testBit 7 != a.getLsbD 7)

/-- ADC's flags (R88): V and C from the raw sum, Z and N from the wrapped one. -/
def adcFlags (a m : Byte) (raw : Nat) (p : Byte) : Byte :=
  setZN (u8 raw).toNat (assignFlag (assignFlag p .v (adcOverflow a m raw)) .c (decide (255 < raw)))

/-- The flags of a shift that moves out `out` and leaves `result` (R89, R90): C is cleared, then set from the bit shifted
out, then Z and N from the result. -/
def shiftFlags (out : Bool) (result p : Byte) : Byte :=
  setZN result.toNat (if out then setFlag (clearFlag p .c) .c else clearFlag p .c)

/-- BIT's flags (R94): V and N copied from the memory byte, Z from `A AND m`. -/
def bitFlags (a m p : Byte) : Byte :=
  assignFlag (copyFlag m (copyFlag m p .v) .n) .z (a &&& m == 0x00)

/-- The status byte PLP loads (R119): bit 5 forced to 1, bit 4 forced to 0. -/
def pulledStatus (v : Byte) : Byte := (v ||| 0x20) &&& 0xEF

end Sys2Proof.Machine
end

