-- ==== Sys2Proof/Machine/Memory.lean ====
section
/-! DEFINITION. Operations on cell lists: the data memory and the cartridge's byte regions (R17, R20, R31). -/

namespace Sys2Proof.Machine

/-! ### Cells in canonical form -/

/-- The byte at an address; an unlisted address reads as 0x00 (R17, R29). -/
def Memory.read : Memory → Nat → Byte
  | [], _ => 0x00
  | (k, v) :: m, a => if k = a then v else Memory.read m a

/-- The cells without those at an address. -/
def Memory.erase (m : Memory) (a : Nat) : Memory := m.filter (fun c => c.1 != a)

/-- The cells with value `v` put at address `a`, addresses rising. -/
def Memory.insert : Memory → Nat → Byte → Memory
  | [], a, v => [(a, v)]
  | (k, w) :: m, a, v =>
    if a < k then (a, v) :: (k, w) :: m
    else if a = k then (a, v) :: m
    else (k, w) :: Memory.insert m a v

/-- Writing one byte (R31). Writing 0x00, which an unlisted address reads as, removes the cell. -/
def Memory.write (m : Memory) (a : Nat) (v : Byte) : Memory :=
  if v = 0x00 then m.erase a else m.insert a v

/-- The canonical form of cells over the addresses below `bound`: strictly rising, in range, none equal to 0x00. -/
abbrev Memory.canonical (bound : Nat) (m : Memory) : Prop :=
  m.Pairwise (fun c d => c.1 < d.1) ∧ ∀ c ∈ m, c.1 < bound ∧ c.2 ≠ 0x00

/-- The canonical form of the data memory: 65536 cells (R17). -/
abbrev Memory.wf (m : Memory) : Prop := m.canonical Config.memSize

/-! ### Byte regions of a cartridge (R20, R37) -/

/-- The region of length 0. -/
def Region.empty : Region := ⟨0, []⟩

/-- The byte at an offset, if the offset lies in the region. -/
def Region.read? (r : Region) (off : Nat) : Option Byte :=
  if off < r.size then some (Memory.read r.cells off) else none

/-- The cells of a byte sequence that starts at offset `k`. -/
def cellsFrom : Nat → List Byte → List Host.Cell
  | _, [] => []
  | k, b :: bs => if b = 0x00 then cellsFrom (k + 1) bs else (k, b) :: cellsFrom (k + 1) bs

/-- The region that holds a byte sequence. -/
def Region.ofBytes (bs : List Byte) : Region := ⟨bs.length, cellsFrom 0 bs⟩

/-- The region with the bytes `bs` at the offsets from `off` on. -/
def Region.patch (r : Region) (off : Nat) : List Byte → Region
  | [] => r
  | b :: bs => Region.patch ⟨r.size, Memory.write r.cells off b⟩ (off + 1) bs

/-- A region's cells are canonical within its length. -/
abbrev Region.wf (r : Region) : Prop := Memory.canonical r.size r.cells

end Sys2Proof.Machine
end

