-- ==== Sys2Proof/Syntax.lean ====
section
/-! DEFINITION. The syntax of the machine: addressing modes, instructions, Instruction Descriptors.
`Instr` has one constructor for each of the 256 rows of spec/opcode_table.json, in the table's order (R53: the table is
total). The 57 implemented rows (R54) carry their operand; the 199 rows with the unimplemented marker carry none, since
their operands are never read (R43, R135). -/

namespace Sys2Proof

/-- The addressing modes of R51. The 105 unofficial opcode bytes have no mode (R153). -/
inductive Mode where
  | imp | acc | imm | zp | abs | rel | zpx | zpy | absx | absy | ind | indx | indy
  deriving DecidableEq, Repr

/-- The instructions: the opcode table's rows, opcode bytes 0x00 to 0xFF in order.
An `imm` operand is the value itself, a `Byte` address is a zero-page address, an `Addr` is an absolute address, a `rel`
operand is the displacement byte as encoded (R51, R52). -/
inductive Instr where
  -- opcode bytes 0x00 to 0x0F
  | brk
  | oraIndX
  | unoff02
  | unoff03
  | unoff04
  | oraZp
  | aslZp
  | unoff07
  | php
  | oraImm
  | aslAcc
  | unoff0B
  | unoff0C
  | oraAbs
  | aslAbs
  | unoff0F
  -- opcode bytes 0x10 to 0x1F
  | bpl (rel : Byte)
  | oraIndY
  | unoff12
  | unoff13
  | unoff14
  | oraZpX
  | aslZpX
  | unoff17
  | clc
  | oraAbsY
  | unoff1A
  | unoff1B
  | unoff1C
  | oraAbsX
  | aslAbsX
  | unoff1F
  -- opcode bytes 0x20 to 0x2F
  | jsr (addr : Addr)
  | andIndX
  | unoff22
  | unoff23
  | bitZp (addr : Byte)
  | andZp
  | rolZp
  | unoff27
  | plp
  | andImm
  | rolAcc
  | unoff2B
  | bitAbs (addr : Addr)
  | andAbs
  | rolAbs
  | unoff2F
  -- opcode bytes 0x30 to 0x3F
  | bmi (rel : Byte)
  | andIndY
  | unoff32
  | unoff33
  | unoff34
  | andZpX
  | rolZpX
  | unoff37
  | sec
  | andAbsY
  | unoff3A
  | unoff3B
  | unoff3C
  | andAbsX
  | rolAbsX
  | unoff3F
  -- opcode bytes 0x40 to 0x4F
  | rti
  | eorIndX
  | unoff42
  | unoff43
  | unoff44
  | eorZp
  | lsrZp
  | unoff47
  | pha
  | eorImm
  | lsrAcc
  | unoff4B
  | jmpAbs (addr : Addr)
  | eorAbs
  | lsrAbs
  | unoff4F
  -- opcode bytes 0x50 to 0x5F
  | bvc (rel : Byte)
  | eorIndY
  | unoff52
  | unoff53
  | unoff54
  | eorZpX
  | lsrZpX
  | unoff57
  | cli
  | eorAbsY
  | unoff5A
  | unoff5B
  | unoff5C
  | eorAbsX
  | lsrAbsX
  | unoff5F
  -- opcode bytes 0x60 to 0x6F
  | rts
  | adcIndX
  | unoff62
  | unoff63
  | unoff64
  | adcZp (addr : Byte)
  | rorZp
  | unoff67
  | pla
  | adcImm (imm : Byte)
  | rorAcc
  | unoff6B
  | jmpInd
  | adcAbs (addr : Addr)
  | rorAbs
  | unoff6F
  -- opcode bytes 0x70 to 0x7F
  | bvs (rel : Byte)
  | adcIndY
  | unoff72
  | unoff73
  | unoff74
  | adcZpX
  | rorZpX
  | unoff77
  | sei
  | adcAbsY
  | unoff7A
  | unoff7B
  | unoff7C
  | adcAbsX
  | rorAbsX
  | unoff7F
  -- opcode bytes 0x80 to 0x8F
  | unoff80
  | staIndX
  | unoff82
  | unoff83
  | styZp (addr : Byte)
  | staZp (addr : Byte)
  | stxZp (addr : Byte)
  | unoff87
  | dey
  | unoff89
  | txa
  | unoff8B
  | styAbs (addr : Addr)
  | staAbs (addr : Addr)
  | stxAbs (addr : Addr)
  | unoff8F
  -- opcode bytes 0x90 to 0x9F
  | bcc (rel : Byte)
  | staIndY
  | unoff92
  | unoff93
  | styZpX
  | staZpX
  | stxZpY
  | unoff97
  | tya
  | staAbsY
  | txs
  | unoff9B
  | unoff9C
  | staAbsX
  | unoff9E
  | unoff9F
  -- opcode bytes 0xA0 to 0xAF
  | ldyImm (imm : Byte)
  | ldaIndX
  | ldxImm (imm : Byte)
  | unoffA3
  | ldyZp (addr : Byte)
  | ldaZp (addr : Byte)
  | ldxZp (addr : Byte)
  | unoffA7
  | tay
  | ldaImm (imm : Byte)
  | tax
  | unoffAB
  | ldyAbs (addr : Addr)
  | ldaAbs (addr : Addr)
  | ldxAbs (addr : Addr)
  | unoffAF
  -- opcode bytes 0xB0 to 0xBF
  | bcs (rel : Byte)
  | ldaIndY
  | unoffB2
  | unoffB3
  | ldyZpX
  | ldaZpX
  | ldxZpY
  | unoffB7
  | clv
  | ldaAbsY
  | tsx
  | unoffBB
  | ldyAbsX
  | ldaAbsX
  | ldxAbsY
  | unoffBF
  -- opcode bytes 0xC0 to 0xCF
  | cpyImm (imm : Byte)
  | cmpIndX
  | unoffC2
  | unoffC3
  | cpyZp (addr : Byte)
  | cmpZp (addr : Byte)
  | decZp
  | unoffC7
  | iny
  | cmpImm (imm : Byte)
  | dex
  | unoffCB
  | cpyAbs (addr : Addr)
  | cmpAbs (addr : Addr)
  | decAbs
  | unoffCF
  -- opcode bytes 0xD0 to 0xDF
  | bne (rel : Byte)
  | cmpIndY
  | unoffD2
  | unoffD3
  | unoffD4
  | cmpZpX
  | decZpX
  | unoffD7
  | cld
  | cmpAbsY
  | unoffDA
  | unoffDB
  | unoffDC
  | cmpAbsX
  | decAbsX
  | unoffDF
  -- opcode bytes 0xE0 to 0xEF
  | cpxImm (imm : Byte)
  | sbcIndX
  | unoffE2
  | unoffE3
  | cpxZp (addr : Byte)
  | sbcZp
  | incZp
  | unoffE7
  | inx
  | sbcImm
  | nop
  | unoffEB
  | cpxAbs (addr : Addr)
  | sbcAbs
  | incAbs
  | unoffEF
  -- opcode bytes 0xF0 to 0xFF
  | beq (rel : Byte)
  | sbcIndY
  | unoffF2
  | unoffF3
  | unoffF4
  | sbcZpX
  | incZpX
  | unoffF7
  | sed
  | sbcAbsY
  | unoffFA
  | unoffFB
  | unoffFC
  | sbcAbsX
  | incAbsX
  | unoffFF
  deriving DecidableEq, Repr

/-- The Instruction Descriptor `d` (R26): an immutable value the caller builds for each `Step`. Its fields are plain
numbers, so that a caller can also hand over an ill-formed one (R27). -/
structure Descriptor where
  /-- `d.opcode`, the opcode byte (0 to 255 in a well-formed descriptor). -/
  opcode : Nat
  /-- `d.size`, the instruction's length in bytes (1 to 3 in a well-formed descriptor). -/
  size : Nat
  /-- `d.operandBytes`, the 0 to 2 raw bytes after the opcode. No handler reads them. -/
  operandBytes : List Byte
  /-- `d.value`, the operand value the caller has resolved. -/
  value : Nat
  deriving DecidableEq, Repr

end Sys2Proof
end

