-- ==== Sys2Proof/Decode.lean ====
section
/-! DEFINITION. The opcode matrix, the decoder and the encoder (R50 to R60).
Byte 0 of an instruction is its opcode, all eight bits (R50); the matrix of 16 rows of 16 entries says, for each opcode
byte, how many operand bytes follow and which instruction they make (R53, R54). `Instr.row` is the other direction: what
the table records of each instruction, its operand bytes among them. -/

namespace Sys2Proof

/-! ### Bytes of a 16-bit value (R32, R50: little-endian) -/

/-- Bits 7:0 of a 16-bit value. -/
def loByte (a : Addr) : Byte := a.extractLsb' 0 8

/-- Bits 15:8 of a 16-bit value. -/
def hiByte (a : Addr) : Byte := a.extractLsb' 8 8

/-- `{hi, lo}`: the 16-bit value of two bytes (R6). -/
def wordOf (lo hi : Byte) : Addr := hi ++ lo

/-- The two operand bytes of a 16-bit operand in ascending order (R50, format F3). -/
def addrBytes (a : Addr) : List Byte := [loByte a, hiByte a]

/-- The unsigned integer of a list of bytes, the first the least significant (R32, R52). -/
def leValue : List Byte → Nat
  | [] => 0
  | b :: bs => b.toNat + 256 * leValue bs

/-! ### The opcode matrix (R53, R54, R57) -/

/-- An entry of the opcode matrix: the format of R50 and the instruction of this opcode byte with its operand, or the
unimplemented marker. -/
inductive Form where
  /-- Format F1: no operand byte follows. -/
  | f1 (i : Instr)
  /-- Format F2: one operand byte follows. -/
  | f2 (mk : Byte → Instr)
  /-- Format F3: two operand bytes follow, the low byte of the operand first. -/
  | f3 (mk : Addr → Instr)
  /-- The unimplemented marker (R57): whatever follows is not read. -/
  | marker (i : Instr)

/-- Opcode bytes 0x00 to 0x0F. -/
def matrixRow0 : Vector Form 16 :=
  #v[.marker .brk, .marker .oraIndX, .marker .unoff02, .marker .unoff03,
     .marker .unoff04, .marker .oraZp, .marker .aslZp, .marker .unoff07,
     .f1 .php, .marker .oraImm, .f1 .aslAcc, .marker .unoff0B,
     .marker .unoff0C, .marker .oraAbs, .marker .aslAbs, .marker .unoff0F]

/-- Opcode bytes 0x10 to 0x1F. -/
def matrixRow1 : Vector Form 16 :=
  #v[.f2 .bpl, .marker .oraIndY, .marker .unoff12, .marker .unoff13,
     .marker .unoff14, .marker .oraZpX, .marker .aslZpX, .marker .unoff17,
     .f1 .clc, .marker .oraAbsY, .marker .unoff1A, .marker .unoff1B,
     .marker .unoff1C, .marker .oraAbsX, .marker .aslAbsX, .marker .unoff1F]

/-- Opcode bytes 0x20 to 0x2F. -/
def matrixRow2 : Vector Form 16 :=
  #v[.f3 .jsr, .marker .andIndX, .marker .unoff22, .marker .unoff23,
     .f2 .bitZp, .marker .andZp, .marker .rolZp, .marker .unoff27,
     .f1 .plp, .marker .andImm, .marker .rolAcc, .marker .unoff2B,
     .f3 .bitAbs, .marker .andAbs, .marker .rolAbs, .marker .unoff2F]

/-- Opcode bytes 0x30 to 0x3F. -/
def matrixRow3 : Vector Form 16 :=
  #v[.f2 .bmi, .marker .andIndY, .marker .unoff32, .marker .unoff33,
     .marker .unoff34, .marker .andZpX, .marker .rolZpX, .marker .unoff37,
     .f1 .sec, .marker .andAbsY, .marker .unoff3A, .marker .unoff3B,
     .marker .unoff3C, .marker .andAbsX, .marker .rolAbsX, .marker .unoff3F]

/-- Opcode bytes 0x40 to 0x4F. -/
def matrixRow4 : Vector Form 16 :=
  #v[.marker .rti, .marker .eorIndX, .marker .unoff42, .marker .unoff43,
     .marker .unoff44, .marker .eorZp, .marker .lsrZp, .marker .unoff47,
     .f1 .pha, .marker .eorImm, .f1 .lsrAcc, .marker .unoff4B,
     .f3 .jmpAbs, .marker .eorAbs, .marker .lsrAbs, .marker .unoff4F]

/-- Opcode bytes 0x50 to 0x5F. -/
def matrixRow5 : Vector Form 16 :=
  #v[.f2 .bvc, .marker .eorIndY, .marker .unoff52, .marker .unoff53,
     .marker .unoff54, .marker .eorZpX, .marker .lsrZpX, .marker .unoff57,
     .marker .cli, .marker .eorAbsY, .marker .unoff5A, .marker .unoff5B,
     .marker .unoff5C, .marker .eorAbsX, .marker .lsrAbsX, .marker .unoff5F]

/-- Opcode bytes 0x60 to 0x6F. -/
def matrixRow6 : Vector Form 16 :=
  #v[.f1 .rts, .marker .adcIndX, .marker .unoff62, .marker .unoff63,
     .marker .unoff64, .f2 .adcZp, .marker .rorZp, .marker .unoff67,
     .f1 .pla, .f2 .adcImm, .marker .rorAcc, .marker .unoff6B,
     .marker .jmpInd, .f3 .adcAbs, .marker .rorAbs, .marker .unoff6F]

/-- Opcode bytes 0x70 to 0x7F. -/
def matrixRow7 : Vector Form 16 :=
  #v[.f2 .bvs, .marker .adcIndY, .marker .unoff72, .marker .unoff73,
     .marker .unoff74, .marker .adcZpX, .marker .rorZpX, .marker .unoff77,
     .f1 .sei, .marker .adcAbsY, .marker .unoff7A, .marker .unoff7B,
     .marker .unoff7C, .marker .adcAbsX, .marker .rorAbsX, .marker .unoff7F]

/-- Opcode bytes 0x80 to 0x8F. -/
def matrixRow8 : Vector Form 16 :=
  #v[.marker .unoff80, .marker .staIndX, .marker .unoff82, .marker .unoff83,
     .f2 .styZp, .f2 .staZp, .f2 .stxZp, .marker .unoff87,
     .marker .dey, .marker .unoff89, .f1 .txa, .marker .unoff8B,
     .f3 .styAbs, .f3 .staAbs, .f3 .stxAbs, .marker .unoff8F]

/-- Opcode bytes 0x90 to 0x9F. -/
def matrixRow9 : Vector Form 16 :=
  #v[.f2 .bcc, .marker .staIndY, .marker .unoff92, .marker .unoff93,
     .marker .styZpX, .marker .staZpX, .marker .stxZpY, .marker .unoff97,
     .f1 .tya, .marker .staAbsY, .marker .txs, .marker .unoff9B,
     .marker .unoff9C, .marker .staAbsX, .marker .unoff9E, .marker .unoff9F]

/-- Opcode bytes 0xA0 to 0xAF. -/
def matrixRowA : Vector Form 16 :=
  #v[.f2 .ldyImm, .marker .ldaIndX, .f2 .ldxImm, .marker .unoffA3,
     .f2 .ldyZp, .f2 .ldaZp, .f2 .ldxZp, .marker .unoffA7,
     .f1 .tay, .f2 .ldaImm, .f1 .tax, .marker .unoffAB,
     .f3 .ldyAbs, .f3 .ldaAbs, .f3 .ldxAbs, .marker .unoffAF]

/-- Opcode bytes 0xB0 to 0xBF. -/
def matrixRowB : Vector Form 16 :=
  #v[.f2 .bcs, .marker .ldaIndY, .marker .unoffB2, .marker .unoffB3,
     .marker .ldyZpX, .marker .ldaZpX, .marker .ldxZpY, .marker .unoffB7,
     .f1 .clv, .marker .ldaAbsY, .marker .tsx, .marker .unoffBB,
     .marker .ldyAbsX, .marker .ldaAbsX, .marker .ldxAbsY, .marker .unoffBF]

/-- Opcode bytes 0xC0 to 0xCF. -/
def matrixRowC : Vector Form 16 :=
  #v[.f2 .cpyImm, .marker .cmpIndX, .marker .unoffC2, .marker .unoffC3,
     .f2 .cpyZp, .f2 .cmpZp, .marker .decZp, .marker .unoffC7,
     .marker .iny, .f2 .cmpImm, .marker .dex, .marker .unoffCB,
     .f3 .cpyAbs, .f3 .cmpAbs, .marker .decAbs, .marker .unoffCF]

/-- Opcode bytes 0xD0 to 0xDF. -/
def matrixRowD : Vector Form 16 :=
  #v[.f2 .bne, .marker .cmpIndY, .marker .unoffD2, .marker .unoffD3,
     .marker .unoffD4, .marker .cmpZpX, .marker .decZpX, .marker .unoffD7,
     .f1 .cld, .marker .cmpAbsY, .marker .unoffDA, .marker .unoffDB,
     .marker .unoffDC, .marker .cmpAbsX, .marker .decAbsX, .marker .unoffDF]

/-- Opcode bytes 0xE0 to 0xEF. -/
def matrixRowE : Vector Form 16 :=
  #v[.f2 .cpxImm, .marker .sbcIndX, .marker .unoffE2, .marker .unoffE3,
     .f2 .cpxZp, .marker .sbcZp, .marker .incZp, .marker .unoffE7,
     .marker .inx, .marker .sbcImm, .f1 .nop, .marker .unoffEB,
     .f3 .cpxAbs, .marker .sbcAbs, .marker .incAbs, .marker .unoffEF]

/-- Opcode bytes 0xF0 to 0xFF. -/
def matrixRowF : Vector Form 16 :=
  #v[.f2 .beq, .marker .sbcIndY, .marker .unoffF2, .marker .unoffF3,
     .marker .unoffF4, .marker .sbcZpX, .marker .incZpX, .marker .unoffF7,
     .f1 .sed, .marker .sbcAbsY, .marker .unoffFA, .marker .unoffFB,
     .marker .unoffFC, .marker .sbcAbsX, .marker .incAbsX, .marker .unoffFF]

/-- The opcode matrix: 16 rows of 16 entries (R53). -/
def opcodeMatrix : Vector (Vector Form 16) 16 :=
  #v[matrixRow0, matrixRow1, matrixRow2, matrixRow3, matrixRow4, matrixRow5, matrixRow6, matrixRow7,
     matrixRow8, matrixRow9, matrixRowA, matrixRowB, matrixRowC, matrixRowD, matrixRowE, matrixRowF]

/-- The entry of an opcode byte: row `op[7:4]`, column `op[3:0]`. No bit of the byte is a don't-care (R53). -/
def formOf (op : Byte) : Form :=
  (opcodeMatrix[op.toNat / 16]'(Nat.div_lt_of_lt_mul (show op.toNat < 16 * 16 from op.isLt)))[op.toNat % 16]'(Nat.mod_lt _ (by decide))

/-- The instruction of an opcode byte with operand value `value`, as a handler sees it (R52). -/
def instrOf (op : Byte) (value : Nat) : Instr :=
  match formOf op with
  | .f1 i => i
  | .f2 mk => mk (u8 value)
  | .f3 mk => mk (BitVec.ofNat 16 value)
  | .marker i => i

/-! ### The decoder -/

/-- What decoding the front of a byte sequence gives. -/
inductive DecodeResult where
  /-- An instruction and the bytes after it. -/
  | ok (i : Instr) (rest : List Byte)
  /-- The sequence ends before the byte at index `missing` (0 the opcode, 1 and 2 the operand bytes). -/
  | truncated (missing : Nat)
  deriving DecidableEq, Repr

/-- Decoding, total on every byte sequence (R50, R52, R60). Every opcode byte has an entry, so the one way to fail is a
sequence that is too short; the first missing byte is named. -/
def decode : List Byte → DecodeResult
  | [] => .truncated 0
  | op :: rest =>
    match formOf op with
    | .f1 i => .ok i rest
    | .marker i => .ok i rest
    | .f2 mk =>
      match rest with
      | [] => .truncated 1
      | b :: rest => .ok (mk b) rest
    | .f3 mk =>
      match rest with
      | [] => .truncated 1
      | [_] => .truncated 2
      | lo :: hi :: rest => .ok (mk (wordOf lo hi)) rest

/-! ### What the table records of each instruction, and the encoder -/

/-- The size of an addressing mode's instructions in bytes (R55). -/
def Mode.size : Mode → Nat
  | .imp => 1
  | .acc => 1
  | .imm => 2
  | .zp => 2
  | .rel => 2
  | .zpx => 2
  | .zpy => 2
  | .indx => 2
  | .indy => 2
  | .abs => 3
  | .absx => 3
  | .absy => 3
  | .ind => 3

/-- A row of the opcode table (R53): opcode byte, mnemonic, addressing mode (none for an unofficial byte), whether its
handler is implemented, and the operand bytes of the instruction at hand. -/
structure Row where
  opcode : Byte
  mnemonic : String
  mode : Option Mode
  implemented : Bool
  operandBytes : List Byte
  deriving DecidableEq, Repr

/-- The opcode table by instruction: R54 for the implemented rows, R136 to R156 for the rows with the unimplemented
marker. -/
def Instr.row : Instr → Row
  | .brk => ⟨0x00, "BRK", some .imp, false, []⟩
  | .oraIndX => ⟨0x01, "ORA", some .indx, false, []⟩
  | .unoff02 => ⟨0x02, "UNOFF_02", none, false, []⟩
  | .unoff03 => ⟨0x03, "UNOFF_03", none, false, []⟩
  | .unoff04 => ⟨0x04, "UNOFF_04", none, false, []⟩
  | .oraZp => ⟨0x05, "ORA", some .zp, false, []⟩
  | .aslZp => ⟨0x06, "ASL", some .zp, false, []⟩
  | .unoff07 => ⟨0x07, "UNOFF_07", none, false, []⟩
  | .php => ⟨0x08, "PHP", some .imp, true, []⟩
  | .oraImm => ⟨0x09, "ORA", some .imm, false, []⟩
  | .aslAcc => ⟨0x0A, "ASL", some .acc, true, []⟩
  | .unoff0B => ⟨0x0B, "UNOFF_0B", none, false, []⟩
  | .unoff0C => ⟨0x0C, "UNOFF_0C", none, false, []⟩
  | .oraAbs => ⟨0x0D, "ORA", some .abs, false, []⟩
  | .aslAbs => ⟨0x0E, "ASL", some .abs, false, []⟩
  | .unoff0F => ⟨0x0F, "UNOFF_0F", none, false, []⟩
  | .bpl rel => ⟨0x10, "BPL", some .rel, true, [rel]⟩
  | .oraIndY => ⟨0x11, "ORA", some .indy, false, []⟩
  | .unoff12 => ⟨0x12, "UNOFF_12", none, false, []⟩
  | .unoff13 => ⟨0x13, "UNOFF_13", none, false, []⟩
  | .unoff14 => ⟨0x14, "UNOFF_14", none, false, []⟩
  | .oraZpX => ⟨0x15, "ORA", some .zpx, false, []⟩
  | .aslZpX => ⟨0x16, "ASL", some .zpx, false, []⟩
  | .unoff17 => ⟨0x17, "UNOFF_17", none, false, []⟩
  | .clc => ⟨0x18, "CLC", some .imp, true, []⟩
  | .oraAbsY => ⟨0x19, "ORA", some .absy, false, []⟩
  | .unoff1A => ⟨0x1A, "UNOFF_1A", none, false, []⟩
  | .unoff1B => ⟨0x1B, "UNOFF_1B", none, false, []⟩
  | .unoff1C => ⟨0x1C, "UNOFF_1C", none, false, []⟩
  | .oraAbsX => ⟨0x1D, "ORA", some .absx, false, []⟩
  | .aslAbsX => ⟨0x1E, "ASL", some .absx, false, []⟩
  | .unoff1F => ⟨0x1F, "UNOFF_1F", none, false, []⟩
  | .jsr addr => ⟨0x20, "JSR", some .abs, true, addrBytes addr⟩
  | .andIndX => ⟨0x21, "AND", some .indx, false, []⟩
  | .unoff22 => ⟨0x22, "UNOFF_22", none, false, []⟩
  | .unoff23 => ⟨0x23, "UNOFF_23", none, false, []⟩
  | .bitZp addr => ⟨0x24, "BIT", some .zp, true, [addr]⟩
  | .andZp => ⟨0x25, "AND", some .zp, false, []⟩
  | .rolZp => ⟨0x26, "ROL", some .zp, false, []⟩
  | .unoff27 => ⟨0x27, "UNOFF_27", none, false, []⟩
  | .plp => ⟨0x28, "PLP", some .imp, true, []⟩
  | .andImm => ⟨0x29, "AND", some .imm, false, []⟩
  | .rolAcc => ⟨0x2A, "ROL", some .acc, false, []⟩
  | .unoff2B => ⟨0x2B, "UNOFF_2B", none, false, []⟩
  | .bitAbs addr => ⟨0x2C, "BIT", some .abs, true, addrBytes addr⟩
  | .andAbs => ⟨0x2D, "AND", some .abs, false, []⟩
  | .rolAbs => ⟨0x2E, "ROL", some .abs, false, []⟩
  | .unoff2F => ⟨0x2F, "UNOFF_2F", none, false, []⟩
  | .bmi rel => ⟨0x30, "BMI", some .rel, true, [rel]⟩
  | .andIndY => ⟨0x31, "AND", some .indy, false, []⟩
  | .unoff32 => ⟨0x32, "UNOFF_32", none, false, []⟩
  | .unoff33 => ⟨0x33, "UNOFF_33", none, false, []⟩
  | .unoff34 => ⟨0x34, "UNOFF_34", none, false, []⟩
  | .andZpX => ⟨0x35, "AND", some .zpx, false, []⟩
  | .rolZpX => ⟨0x36, "ROL", some .zpx, false, []⟩
  | .unoff37 => ⟨0x37, "UNOFF_37", none, false, []⟩
  | .sec => ⟨0x38, "SEC", some .imp, true, []⟩
  | .andAbsY => ⟨0x39, "AND", some .absy, false, []⟩
  | .unoff3A => ⟨0x3A, "UNOFF_3A", none, false, []⟩
  | .unoff3B => ⟨0x3B, "UNOFF_3B", none, false, []⟩
  | .unoff3C => ⟨0x3C, "UNOFF_3C", none, false, []⟩
  | .andAbsX => ⟨0x3D, "AND", some .absx, false, []⟩
  | .rolAbsX => ⟨0x3E, "ROL", some .absx, false, []⟩
  | .unoff3F => ⟨0x3F, "UNOFF_3F", none, false, []⟩
  | .rti => ⟨0x40, "RTI", some .imp, false, []⟩
  | .eorIndX => ⟨0x41, "EOR", some .indx, false, []⟩
  | .unoff42 => ⟨0x42, "UNOFF_42", none, false, []⟩
  | .unoff43 => ⟨0x43, "UNOFF_43", none, false, []⟩
  | .unoff44 => ⟨0x44, "UNOFF_44", none, false, []⟩
  | .eorZp => ⟨0x45, "EOR", some .zp, false, []⟩
  | .lsrZp => ⟨0x46, "LSR", some .zp, false, []⟩
  | .unoff47 => ⟨0x47, "UNOFF_47", none, false, []⟩
  | .pha => ⟨0x48, "PHA", some .imp, true, []⟩
  | .eorImm => ⟨0x49, "EOR", some .imm, false, []⟩
  | .lsrAcc => ⟨0x4A, "LSR", some .acc, true, []⟩
  | .unoff4B => ⟨0x4B, "UNOFF_4B", none, false, []⟩
  | .jmpAbs addr => ⟨0x4C, "JMP", some .abs, true, addrBytes addr⟩
  | .eorAbs => ⟨0x4D, "EOR", some .abs, false, []⟩
  | .lsrAbs => ⟨0x4E, "LSR", some .abs, false, []⟩
  | .unoff4F => ⟨0x4F, "UNOFF_4F", none, false, []⟩
  | .bvc rel => ⟨0x50, "BVC", some .rel, true, [rel]⟩
  | .eorIndY => ⟨0x51, "EOR", some .indy, false, []⟩
  | .unoff52 => ⟨0x52, "UNOFF_52", none, false, []⟩
  | .unoff53 => ⟨0x53, "UNOFF_53", none, false, []⟩
  | .unoff54 => ⟨0x54, "UNOFF_54", none, false, []⟩
  | .eorZpX => ⟨0x55, "EOR", some .zpx, false, []⟩
  | .lsrZpX => ⟨0x56, "LSR", some .zpx, false, []⟩
  | .unoff57 => ⟨0x57, "UNOFF_57", none, false, []⟩
  | .cli => ⟨0x58, "CLI", some .imp, false, []⟩
  | .eorAbsY => ⟨0x59, "EOR", some .absy, false, []⟩
  | .unoff5A => ⟨0x5A, "UNOFF_5A", none, false, []⟩
  | .unoff5B => ⟨0x5B, "UNOFF_5B", none, false, []⟩
  | .unoff5C => ⟨0x5C, "UNOFF_5C", none, false, []⟩
  | .eorAbsX => ⟨0x5D, "EOR", some .absx, false, []⟩
  | .lsrAbsX => ⟨0x5E, "LSR", some .absx, false, []⟩
  | .unoff5F => ⟨0x5F, "UNOFF_5F", none, false, []⟩
  | .rts => ⟨0x60, "RTS", some .imp, true, []⟩
  | .adcIndX => ⟨0x61, "ADC", some .indx, false, []⟩
  | .unoff62 => ⟨0x62, "UNOFF_62", none, false, []⟩
  | .unoff63 => ⟨0x63, "UNOFF_63", none, false, []⟩
  | .unoff64 => ⟨0x64, "UNOFF_64", none, false, []⟩
  | .adcZp addr => ⟨0x65, "ADC", some .zp, true, [addr]⟩
  | .rorZp => ⟨0x66, "ROR", some .zp, false, []⟩
  | .unoff67 => ⟨0x67, "UNOFF_67", none, false, []⟩
  | .pla => ⟨0x68, "PLA", some .imp, true, []⟩
  | .adcImm imm => ⟨0x69, "ADC", some .imm, true, [imm]⟩
  | .rorAcc => ⟨0x6A, "ROR", some .acc, false, []⟩
  | .unoff6B => ⟨0x6B, "UNOFF_6B", none, false, []⟩
  | .jmpInd => ⟨0x6C, "JMP", some .ind, false, []⟩
  | .adcAbs addr => ⟨0x6D, "ADC", some .abs, true, addrBytes addr⟩
  | .rorAbs => ⟨0x6E, "ROR", some .abs, false, []⟩
  | .unoff6F => ⟨0x6F, "UNOFF_6F", none, false, []⟩
  | .bvs rel => ⟨0x70, "BVS", some .rel, true, [rel]⟩
  | .adcIndY => ⟨0x71, "ADC", some .indy, false, []⟩
  | .unoff72 => ⟨0x72, "UNOFF_72", none, false, []⟩
  | .unoff73 => ⟨0x73, "UNOFF_73", none, false, []⟩
  | .unoff74 => ⟨0x74, "UNOFF_74", none, false, []⟩
  | .adcZpX => ⟨0x75, "ADC", some .zpx, false, []⟩
  | .rorZpX => ⟨0x76, "ROR", some .zpx, false, []⟩
  | .unoff77 => ⟨0x77, "UNOFF_77", none, false, []⟩
  | .sei => ⟨0x78, "SEI", some .imp, true, []⟩
  | .adcAbsY => ⟨0x79, "ADC", some .absy, false, []⟩
  | .unoff7A => ⟨0x7A, "UNOFF_7A", none, false, []⟩
  | .unoff7B => ⟨0x7B, "UNOFF_7B", none, false, []⟩
  | .unoff7C => ⟨0x7C, "UNOFF_7C", none, false, []⟩
  | .adcAbsX => ⟨0x7D, "ADC", some .absx, false, []⟩
  | .rorAbsX => ⟨0x7E, "ROR", some .absx, false, []⟩
  | .unoff7F => ⟨0x7F, "UNOFF_7F", none, false, []⟩
  | .unoff80 => ⟨0x80, "UNOFF_80", none, false, []⟩
  | .staIndX => ⟨0x81, "STA", some .indx, false, []⟩
  | .unoff82 => ⟨0x82, "UNOFF_82", none, false, []⟩
  | .unoff83 => ⟨0x83, "UNOFF_83", none, false, []⟩
  | .styZp addr => ⟨0x84, "STY", some .zp, true, [addr]⟩
  | .staZp addr => ⟨0x85, "STA", some .zp, true, [addr]⟩
  | .stxZp addr => ⟨0x86, "STX", some .zp, true, [addr]⟩
  | .unoff87 => ⟨0x87, "UNOFF_87", none, false, []⟩
  | .dey => ⟨0x88, "DEY", some .imp, false, []⟩
  | .unoff89 => ⟨0x89, "UNOFF_89", none, false, []⟩
  | .txa => ⟨0x8A, "TXA", some .imp, true, []⟩
  | .unoff8B => ⟨0x8B, "UNOFF_8B", none, false, []⟩
  | .styAbs addr => ⟨0x8C, "STY", some .abs, true, addrBytes addr⟩
  | .staAbs addr => ⟨0x8D, "STA", some .abs, true, addrBytes addr⟩
  | .stxAbs addr => ⟨0x8E, "STX", some .abs, true, addrBytes addr⟩
  | .unoff8F => ⟨0x8F, "UNOFF_8F", none, false, []⟩
  | .bcc rel => ⟨0x90, "BCC", some .rel, true, [rel]⟩
  | .staIndY => ⟨0x91, "STA", some .indy, false, []⟩
  | .unoff92 => ⟨0x92, "UNOFF_92", none, false, []⟩
  | .unoff93 => ⟨0x93, "UNOFF_93", none, false, []⟩
  | .styZpX => ⟨0x94, "STY", some .zpx, false, []⟩
  | .staZpX => ⟨0x95, "STA", some .zpx, false, []⟩
  | .stxZpY => ⟨0x96, "STX", some .zpy, false, []⟩
  | .unoff97 => ⟨0x97, "UNOFF_97", none, false, []⟩
  | .tya => ⟨0x98, "TYA", some .imp, true, []⟩
  | .staAbsY => ⟨0x99, "STA", some .absy, false, []⟩
  | .txs => ⟨0x9A, "TXS", some .imp, false, []⟩
  | .unoff9B => ⟨0x9B, "UNOFF_9B", none, false, []⟩
  | .unoff9C => ⟨0x9C, "UNOFF_9C", none, false, []⟩
  | .staAbsX => ⟨0x9D, "STA", some .absx, false, []⟩
  | .unoff9E => ⟨0x9E, "UNOFF_9E", none, false, []⟩
  | .unoff9F => ⟨0x9F, "UNOFF_9F", none, false, []⟩
  | .ldyImm imm => ⟨0xA0, "LDY", some .imm, true, [imm]⟩
  | .ldaIndX => ⟨0xA1, "LDA", some .indx, false, []⟩
  | .ldxImm imm => ⟨0xA2, "LDX", some .imm, true, [imm]⟩
  | .unoffA3 => ⟨0xA3, "UNOFF_A3", none, false, []⟩
  | .ldyZp addr => ⟨0xA4, "LDY", some .zp, true, [addr]⟩
  | .ldaZp addr => ⟨0xA5, "LDA", some .zp, true, [addr]⟩
  | .ldxZp addr => ⟨0xA6, "LDX", some .zp, true, [addr]⟩
  | .unoffA7 => ⟨0xA7, "UNOFF_A7", none, false, []⟩
  | .tay => ⟨0xA8, "TAY", some .imp, true, []⟩
  | .ldaImm imm => ⟨0xA9, "LDA", some .imm, true, [imm]⟩
  | .tax => ⟨0xAA, "TAX", some .imp, true, []⟩
  | .unoffAB => ⟨0xAB, "UNOFF_AB", none, false, []⟩
  | .ldyAbs addr => ⟨0xAC, "LDY", some .abs, true, addrBytes addr⟩
  | .ldaAbs addr => ⟨0xAD, "LDA", some .abs, true, addrBytes addr⟩
  | .ldxAbs addr => ⟨0xAE, "LDX", some .abs, true, addrBytes addr⟩
  | .unoffAF => ⟨0xAF, "UNOFF_AF", none, false, []⟩
  | .bcs rel => ⟨0xB0, "BCS", some .rel, true, [rel]⟩
  | .ldaIndY => ⟨0xB1, "LDA", some .indy, false, []⟩
  | .unoffB2 => ⟨0xB2, "UNOFF_B2", none, false, []⟩
  | .unoffB3 => ⟨0xB3, "UNOFF_B3", none, false, []⟩
  | .ldyZpX => ⟨0xB4, "LDY", some .zpx, false, []⟩
  | .ldaZpX => ⟨0xB5, "LDA", some .zpx, false, []⟩
  | .ldxZpY => ⟨0xB6, "LDX", some .zpy, false, []⟩
  | .unoffB7 => ⟨0xB7, "UNOFF_B7", none, false, []⟩
  | .clv => ⟨0xB8, "CLV", some .imp, true, []⟩
  | .ldaAbsY => ⟨0xB9, "LDA", some .absy, false, []⟩
  | .tsx => ⟨0xBA, "TSX", some .imp, false, []⟩
  | .unoffBB => ⟨0xBB, "UNOFF_BB", none, false, []⟩
  | .ldyAbsX => ⟨0xBC, "LDY", some .absx, false, []⟩
  | .ldaAbsX => ⟨0xBD, "LDA", some .absx, false, []⟩
  | .ldxAbsY => ⟨0xBE, "LDX", some .absy, false, []⟩
  | .unoffBF => ⟨0xBF, "UNOFF_BF", none, false, []⟩
  | .cpyImm imm => ⟨0xC0, "CPY", some .imm, true, [imm]⟩
  | .cmpIndX => ⟨0xC1, "CMP", some .indx, false, []⟩
  | .unoffC2 => ⟨0xC2, "UNOFF_C2", none, false, []⟩
  | .unoffC3 => ⟨0xC3, "UNOFF_C3", none, false, []⟩
  | .cpyZp addr => ⟨0xC4, "CPY", some .zp, true, [addr]⟩
  | .cmpZp addr => ⟨0xC5, "CMP", some .zp, true, [addr]⟩
  | .decZp => ⟨0xC6, "DEC", some .zp, false, []⟩
  | .unoffC7 => ⟨0xC7, "UNOFF_C7", none, false, []⟩
  | .iny => ⟨0xC8, "INY", some .imp, false, []⟩
  | .cmpImm imm => ⟨0xC9, "CMP", some .imm, true, [imm]⟩
  | .dex => ⟨0xCA, "DEX", some .imp, false, []⟩
  | .unoffCB => ⟨0xCB, "UNOFF_CB", none, false, []⟩
  | .cpyAbs addr => ⟨0xCC, "CPY", some .abs, true, addrBytes addr⟩
  | .cmpAbs addr => ⟨0xCD, "CMP", some .abs, true, addrBytes addr⟩
  | .decAbs => ⟨0xCE, "DEC", some .abs, false, []⟩
  | .unoffCF => ⟨0xCF, "UNOFF_CF", none, false, []⟩
  | .bne rel => ⟨0xD0, "BNE", some .rel, true, [rel]⟩
  | .cmpIndY => ⟨0xD1, "CMP", some .indy, false, []⟩
  | .unoffD2 => ⟨0xD2, "UNOFF_D2", none, false, []⟩
  | .unoffD3 => ⟨0xD3, "UNOFF_D3", none, false, []⟩
  | .unoffD4 => ⟨0xD4, "UNOFF_D4", none, false, []⟩
  | .cmpZpX => ⟨0xD5, "CMP", some .zpx, false, []⟩
  | .decZpX => ⟨0xD6, "DEC", some .zpx, false, []⟩
  | .unoffD7 => ⟨0xD7, "UNOFF_D7", none, false, []⟩
  | .cld => ⟨0xD8, "CLD", some .imp, true, []⟩
  | .cmpAbsY => ⟨0xD9, "CMP", some .absy, false, []⟩
  | .unoffDA => ⟨0xDA, "UNOFF_DA", none, false, []⟩
  | .unoffDB => ⟨0xDB, "UNOFF_DB", none, false, []⟩
  | .unoffDC => ⟨0xDC, "UNOFF_DC", none, false, []⟩
  | .cmpAbsX => ⟨0xDD, "CMP", some .absx, false, []⟩
  | .decAbsX => ⟨0xDE, "DEC", some .absx, false, []⟩
  | .unoffDF => ⟨0xDF, "UNOFF_DF", none, false, []⟩
  | .cpxImm imm => ⟨0xE0, "CPX", some .imm, true, [imm]⟩
  | .sbcIndX => ⟨0xE1, "SBC", some .indx, false, []⟩
  | .unoffE2 => ⟨0xE2, "UNOFF_E2", none, false, []⟩
  | .unoffE3 => ⟨0xE3, "UNOFF_E3", none, false, []⟩
  | .cpxZp addr => ⟨0xE4, "CPX", some .zp, true, [addr]⟩
  | .sbcZp => ⟨0xE5, "SBC", some .zp, false, []⟩
  | .incZp => ⟨0xE6, "INC", some .zp, false, []⟩
  | .unoffE7 => ⟨0xE7, "UNOFF_E7", none, false, []⟩
  | .inx => ⟨0xE8, "INX", some .imp, false, []⟩
  | .sbcImm => ⟨0xE9, "SBC", some .imm, false, []⟩
  | .nop => ⟨0xEA, "NOP", some .imp, true, []⟩
  | .unoffEB => ⟨0xEB, "UNOFF_EB", none, false, []⟩
  | .cpxAbs addr => ⟨0xEC, "CPX", some .abs, true, addrBytes addr⟩
  | .sbcAbs => ⟨0xED, "SBC", some .abs, false, []⟩
  | .incAbs => ⟨0xEE, "INC", some .abs, false, []⟩
  | .unoffEF => ⟨0xEF, "UNOFF_EF", none, false, []⟩
  | .beq rel => ⟨0xF0, "BEQ", some .rel, true, [rel]⟩
  | .sbcIndY => ⟨0xF1, "SBC", some .indy, false, []⟩
  | .unoffF2 => ⟨0xF2, "UNOFF_F2", none, false, []⟩
  | .unoffF3 => ⟨0xF3, "UNOFF_F3", none, false, []⟩
  | .unoffF4 => ⟨0xF4, "UNOFF_F4", none, false, []⟩
  | .sbcZpX => ⟨0xF5, "SBC", some .zpx, false, []⟩
  | .incZpX => ⟨0xF6, "INC", some .zpx, false, []⟩
  | .unoffF7 => ⟨0xF7, "UNOFF_F7", none, false, []⟩
  | .sed => ⟨0xF8, "SED", some .imp, true, []⟩
  | .sbcAbsY => ⟨0xF9, "SBC", some .absy, false, []⟩
  | .unoffFA => ⟨0xFA, "UNOFF_FA", none, false, []⟩
  | .unoffFB => ⟨0xFB, "UNOFF_FB", none, false, []⟩
  | .unoffFC => ⟨0xFC, "UNOFF_FC", none, false, []⟩
  | .sbcAbsX => ⟨0xFD, "SBC", some .absx, false, []⟩
  | .incAbsX => ⟨0xFE, "INC", some .absx, false, []⟩
  | .unoffFF => ⟨0xFF, "UNOFF_FF", none, false, []⟩

/-- The opcode byte. -/
def Instr.opcode (i : Instr) : Byte := i.row.opcode

/-- The mnemonic, as spec/opcode_table.json spells it. -/
def Instr.mnemonic (i : Instr) : String := i.row.mnemonic

/-- The addressing mode (R51); an unofficial byte has none. -/
def Instr.mode (i : Instr) : Option Mode := i.row.mode

/-- Whether the entry's handler is implemented (R54) or is the marker (R57). -/
def Instr.implemented (i : Instr) : Bool := i.row.implemented

/-- `SIZE` (R55); an unofficial byte has none (R153). -/
def Instr.size (i : Instr) : Option Nat := i.mode.map Mode.size

/-- `d.operandBytes` of the instruction (R26). -/
def Instr.operandBytes (i : Instr) : List Byte := i.row.operandBytes

/-- The words of an instruction: its opcode byte and then its operand bytes (R50). For an instruction with the
unimplemented marker the opcode byte alone, since no operand byte of it is ever fetched (R43, R57). -/
def encode (i : Instr) : List Byte := i.opcode :: i.operandBytes

/-- The descriptor of an instruction on the ROM-driven path (R43, R52). -/
def Instr.descriptor (i : Instr) : Descriptor :=
  ⟨i.opcode.toNat, 1 + i.operandBytes.length, i.operandBytes, leValue i.operandBytes⟩

/-- The instruction a well-formed descriptor stands for: handlers read only its opcode and value (R27). -/
def Descriptor.instr (d : Descriptor) : Instr := instrOf (u8 d.opcode) d.value

/-! ### The opcode table's words -/

/-- The longest instruction's bytes of the table word `w`, of which the lowest `nbits` bits count: bit 0 is the least
significant bit of byte 0, and byte 1 holds bits 15:8. -/
def tableBytes (nbits w : Nat) : List Byte :=
  [u8 (w % 2 ^ nbits), u8 (w % 2 ^ nbits / 256), u8 (w % 2 ^ nbits / 65536)]

/-- The instruction the decoder reads from a word of the opcode table. -/
def decodeTableWord (nbits w : Nat) : Option Instr :=
  match decode (tableBytes nbits w) with
  | .ok i _ => some i
  | .truncated _ => none

end Sys2Proof
end

