-- ==== Sys2Proof/WellFormed.lean ====
section
/-! DEFINITION. Which descriptors `Step` has a meaning for (R27, decision D17).
The terms of `Instr` need no check of their own: an operand's width is its type's, so every term is a well-formed
instruction and denotes a well-formed descriptor. What can be ill-formed is the Instruction Descriptor a host hands to
`Step`: its four fields are plain numbers and lists. -/

namespace Sys2Proof

/-- The checks of R27 on the fields beside the opcode, for an opcode whose entry is implemented: the size is the table's,
there are `size - 1` operand bytes, and the value fits in them (so it is 0 when the size is 1). -/
def Descriptor.operandFits (d : Descriptor) (tableSize : Nat) : Bool :=
  d.size == tableSize && d.operandBytes.length == d.size - 1 && decide (d.value < 256 ^ (d.size - 1))

/-- R27: the opcode is a byte; and if its entry is implemented, the other fields fit it. For an unimplemented opcode any
other field is accepted (decision D17). -/
def Descriptor.wellFormed (d : Descriptor) : Bool :=
  decide (d.opcode < 256) &&
    match (instrOf (u8 d.opcode) 0).implemented, (instrOf (u8 d.opcode) 0).size with
    | true, some n => d.operandFits n
    | _, _ => true

end Sys2Proof
end

