-- ==== Sys2Proof/Machine/Ops.lean ====
section
/-! DEFINITION. The operations the meanings share: registers, data memory, the stack, the program counter, the shape of
a step, and raising a fault (R7, R31, R100, R115, R166, R176). -/

namespace Sys2Proof.Machine

/-! ### Registers: `r <- v` (R7) -/

/-- `A <- v` (R10). -/
def State.setA (s : State) (v : Byte) : State := { s with a := v }

/-- `X <- v` (R11). -/
def State.setX (s : State) (v : Byte) : State := { s with x := v }

/-- `Y <- v` (R12). -/
def State.setY (s : State) (v : Byte) : State := { s with y := v }

/-- `SP <- v` (R13). -/
def State.setSP (s : State) (v : Byte) : State := { s with sp := v }

/-- `P <- v` (R14). -/
def State.setP (s : State) (v : Byte) : State := { s with p := v }

/-- `SetZN(v)` on the machine's status register (R86). -/
def State.setZN (s : State) (v : Byte) : State := s.setP (Machine.setZN v.toNat s.p)

/-! ### Data memory (R31): one byte at a time, any 16-bit address -/

/-- `MemRead(addr, 1)` (R31). -/
def State.memRead (s : State) (a : Addr) : Byte := s.mem.read a.toNat

/-- `MemWrite(addr, 1, v)` (R31). -/
def State.memWrite (s : State) (a : Addr) (v : Byte) : State := { s with mem := s.mem.write a.toNat v }

/-! ### Zero and sign extension (R7) -/

/-- `zext_16(v)`. -/
def zext16 (v : Byte) : Addr := v.zeroExtend 16

/-- `sext_8(v)` as an addend of the 16-bit program counter. -/
def sext8 (v : Byte) : Addr := v.signExtend 16

/-! ### The stack (R13, R115): no 0x0100 base, no limit, `SP` wraps -/

/-- The stack address of a stack pointer value: `STACK_BASE` is 0 (R5, R13). -/
def stackAddr (sp : Byte) : Addr := zext16 sp

/-- `Push(v)` (R115): decrement, then write. -/
def State.push (s : State) (v : Byte) : State := (s.setSP (s.sp - 1)).memWrite (stackAddr (s.sp - 1)) v

/-- The value `Pull()` returns (R115): the byte at `SP`. -/
def State.pullValue (s : State) : Byte := s.memRead (stackAddr s.sp)

/-- What `Pull()` does to the state (R115): increment after the read. -/
def State.pulled (s : State) : State := s.setSP (s.sp + 1)

/-- JSR's store (R111): the high byte of the return address at `SP`, the low byte one cell below, then `SP - 2`. -/
def State.pushReturn (s : State) (ret : Addr) : State :=
  (((s.memWrite (stackAddr s.sp) (hiByte ret)).memWrite (stackAddr (s.sp - 1)) (loByte ret))).setSP (s.sp - 2)

/-- RTS's read (R112): `SP + 2`, then the high byte at `SP` and the low byte one cell below. -/
def State.returnAddr (s : State) : Addr :=
  wordOf (s.memRead (stackAddr (s.sp + 2 - 1))) (s.memRead (stackAddr (s.sp + 2)))

/-! ### The program counter (R100) -/

/-- `SetPC(addr)`: assigns `PC` and raises `pc_set` (R100). -/
def State.setPC (s : State) (a : Addr) : State := { s with pc := a, pcSet := true }

/-- A taken branch's addition to `PC`; `pc_set` stays as it is (R101, decision D8). -/
def State.addPC (s : State) (d : Addr) : State := { s with pc := s.pc + d }

/-! ### The shape of a step (R176) -/

/-- Line 1 of `Step`: `pc_set <- false`. -/
def State.beginStep (s : State) : State := { s with pcSet := false }

/-- Line 3 of `Step`: add the opcode's cycle cost. -/
def State.addCycles (s : State) (opcode : Byte) : State := { s with cycle := s.cycle + s.params.cost opcode }

/-- Line 4 of `Step`: unless the handler assigned `PC`, advance it by the size the table gives (R55). An unofficial byte
has no size; its handler is the marker, so no step reaches this line for it. -/
def State.advance (s : State) (size : Option Nat) : State :=
  if s.pcSet then s else
    match size with
    | some n => { s with pc := s.pc + BitVec.ofNat 16 n }
    | none => s

/-- `Step` of an implemented instruction (R176): lines 1 to 4 around its handler. No implemented handler can raise, so
such a step always completes. -/
def complete (i : Instr) (handler : State → State) (s : State) : Result :=
  .next (((handler s.beginStep).addCycles i.opcode).advance i.size)

/-! ### Raising a fault (R166) -/

/-- Fault entry, the machine's one form of exception (R166): it saves nothing and changes nothing, no register is pushed,
no mode changes, `PC` does not move to a vector. Control leaves the machine: the operation answers the fault instead of a
new state. There is no return from it (R167): a later operation starts from the unchanged state. -/
def raise (f : Fault) : Result := .fault f

/-- `Step` of an opcode whose entry is the unimplemented marker (R135, R176 line 2): it raises
`UnimplementedOpcode(opcode)` before the handler, the cycle addition and the `PC` advance. -/
def unimplemented (i : Instr) (_ : State) : Result := raise (.unimplementedOpcode i.opcode)

/-- The state the host sees after an operation that began in `s` (R166, R167): the new state, or the unchanged one after
a fault or a refusal. -/
def stateAfter (s : State) : Result → State
  | .next t => t
  | .fault _ => s
  | .refused _ => s

end Sys2Proof.Machine
end

