-- ==== Sys2Proof/Machine/Operands.lean ====
section
/-! DEFINITION. The operand forms (R51, R58, R59). -/

namespace Sys2Proof.Machine

/-- `Operand(d)` of mode IMM (R58): the operand byte itself. -/
def operandImm (imm : Byte) (_ : State) : Byte := imm

/-- `Addr(d)` of mode ZP (R59): the operand byte, zero-extended. -/
def addrZp (addr : Byte) : Addr := zext16 addr

/-- `Addr(d)` of mode ABS (R59): the operand itself. -/
def addrAbs (addr : Addr) : Addr := addr

/-- `Operand(d)` of mode ZP (R58): the byte at the zero-page address. -/
def operandZp (addr : Byte) (s : State) : Byte := s.memRead (addrZp addr)

/-- `Operand(d)` of mode ABS (R58): the byte at the absolute address. -/
def operandAbs (addr : Addr) (s : State) : Byte := s.memRead (addrAbs addr)

end Sys2Proof.Machine
end

