-- ==== Sys2Proof/Machine/Alu.lean ====
section
/-! DEFINITION. Arithmetic, shifts, compares and the bit test (R87 to R95). -/

namespace Sys2Proof.Machine

/-! ### The handlers -/

/-- ADC (R88): the carry in is the old carry; the overflow test uses `A` before it is overwritten; the decimal flag is
ignored. -/
def adc (operand : State → Byte) (s : State) : State :=
  (s.setA (u8 (adcRaw s.a (operand s) s.carry))).setP
    (adcFlags s.a (operand s) (adcRaw s.a (operand s) s.carry) s.p)

/-- ASL of the accumulator (R89): the bit shifted out is `A[7]`. -/
def asl (s : State) : State :=
  (s.setA (u8 (s.a.toNat * 2))).setP (shiftFlags (s.a.getLsbD 7) (u8 (s.a.toNat * 2)) s.p)

/-- LSR of the accumulator (R90): the bit shifted out is `A[0]`. -/
def lsr (s : State) : State :=
  (s.setA (u8 (s.a.toNat / 2))).setP (shiftFlags (s.a.getLsbD 0) (u8 (s.a.toNat / 2)) s.p)

/-- CMP (R91). -/
def cmp (operand : State → Byte) (s : State) : State := s.setP (compareFlags s.a (operand s) s.p)

/-- CPX (R92). -/
def cpx (operand : State → Byte) (s : State) : State := s.setP (compareFlags s.x (operand s) s.p)

/-- CPY (R93). -/
def cpy (operand : State → Byte) (s : State) : State := s.setP (compareFlags s.y (operand s) s.p)

/-- BIT (R94). -/
def bit (addr : Addr) (s : State) : State := s.setP (bitFlags s.a (s.memRead addr) s.p)

/-! ### The meanings -/

/-- ADC #imm, 0x69 (R88). -/
def execAdcImm (imm : Byte) (s : State) : Result := complete (.adcImm imm) (adc (operandImm imm)) s

/-- ADC zp, 0x65 (R88). -/
def execAdcZp (addr : Byte) (s : State) : Result := complete (.adcZp addr) (adc (operandZp addr)) s

/-- ADC abs, 0x6D (R88). -/
def execAdcAbs (addr : Addr) (s : State) : Result := complete (.adcAbs addr) (adc (operandAbs addr)) s

/-- ASL A, 0x0A (R89). -/
def execAslAcc (s : State) : Result := complete .aslAcc asl s

/-- LSR A, 0x4A (R90). -/
def execLsrAcc (s : State) : Result := complete .lsrAcc lsr s

/-- CMP #imm, 0xC9 (R91). -/
def execCmpImm (imm : Byte) (s : State) : Result := complete (.cmpImm imm) (cmp (operandImm imm)) s

/-- CMP zp, 0xC5 (R91). -/
def execCmpZp (addr : Byte) (s : State) : Result := complete (.cmpZp addr) (cmp (operandZp addr)) s

/-- CMP abs, 0xCD (R91). -/
def execCmpAbs (addr : Addr) (s : State) : Result := complete (.cmpAbs addr) (cmp (operandAbs addr)) s

/-- CPX #imm, 0xE0 (R92). -/
def execCpxImm (imm : Byte) (s : State) : Result := complete (.cpxImm imm) (cpx (operandImm imm)) s

/-- CPX zp, 0xE4 (R92). -/
def execCpxZp (addr : Byte) (s : State) : Result := complete (.cpxZp addr) (cpx (operandZp addr)) s

/-- CPX abs, 0xEC (R92). -/
def execCpxAbs (addr : Addr) (s : State) : Result := complete (.cpxAbs addr) (cpx (operandAbs addr)) s

/-- CPY #imm, 0xC0 (R93). -/
def execCpyImm (imm : Byte) (s : State) : Result := complete (.cpyImm imm) (cpy (operandImm imm)) s

/-- CPY zp, 0xC4 (R93). -/
def execCpyZp (addr : Byte) (s : State) : Result := complete (.cpyZp addr) (cpy (operandZp addr)) s

/-- CPY abs, 0xCC (R93). -/
def execCpyAbs (addr : Addr) (s : State) : Result := complete (.cpyAbs addr) (cpy (operandAbs addr)) s

/-- BIT zp, 0x24 (R94). -/
def execBitZp (addr : Byte) (s : State) : Result := complete (.bitZp addr) (bit (addrZp addr)) s

/-- BIT abs, 0x2C (R94). -/
def execBitAbs (addr : Addr) (s : State) : Result := complete (.bitAbs addr) (bit (addrAbs addr)) s

end Sys2Proof.Machine
end

