-- ==== Sys2Proof/Machine/Control.lean ====
section
/-! DEFINITION. Branches, jump, call and return (R100 to R112). In a handler `PC` is the address of the instruction being
executed (R8). -/

namespace Sys2Proof.Machine

/-! ### The handlers -/

/-- `Branch(cond, d)` (R101): when taken, add the sign-extended displacement to `PC`; the default advance by 2 still
applies. -/
def branch (cond : State → Bool) (rel : Byte) (s : State) : State :=
  if cond s then s.addPC (sext8 rel) else s

/-- The condition "flag `f` is `v`". -/
def flagIs (f : Flag) (v : Bool) (s : State) : Bool := s.flag f == v

/-- JMP (R110). -/
def jmp (addr : Addr) (s : State) : State := s.setPC addr

/-- JSR (R111): the return address is `PC + 3`. -/
def callSubroutine (addr : Addr) (s : State) : State := (s.pushReturn (s.pc + 3)).setPC addr

/-- RTS (R112): nothing is added to the address read. -/
def rts (s : State) : State := (s.setSP (s.sp + 2)).setPC s.returnAddr

/-! ### The meanings -/

/-- BCC, 0x90 (R102). -/
def execBcc (rel : Byte) (s : State) : Result := complete (.bcc rel) (branch (flagIs .c false) rel) s

/-- BCS, 0xB0 (R103). -/
def execBcs (rel : Byte) (s : State) : Result := complete (.bcs rel) (branch (flagIs .c true) rel) s

/-- BEQ, 0xF0 (R104). -/
def execBeq (rel : Byte) (s : State) : Result := complete (.beq rel) (branch (flagIs .z true) rel) s

/-- BNE, 0xD0 (R105). -/
def execBne (rel : Byte) (s : State) : Result := complete (.bne rel) (branch (flagIs .z false) rel) s

/-- BMI, 0x30 (R106). -/
def execBmi (rel : Byte) (s : State) : Result := complete (.bmi rel) (branch (flagIs .n true) rel) s

/-- BPL, 0x10 (R107). -/
def execBpl (rel : Byte) (s : State) : Result := complete (.bpl rel) (branch (flagIs .n false) rel) s

/-- BVC, 0x50 (R108). -/
def execBvc (rel : Byte) (s : State) : Result := complete (.bvc rel) (branch (flagIs .v false) rel) s

/-- BVS, 0x70 (R109). -/
def execBvs (rel : Byte) (s : State) : Result := complete (.bvs rel) (branch (flagIs .v true) rel) s

/-- JMP abs, 0x4C (R110). -/
def execJmpAbs (addr : Addr) (s : State) : Result := complete (.jmpAbs addr) (jmp (addrAbs addr)) s

/-- JSR abs, 0x20 (R111). -/
def execJsr (addr : Addr) (s : State) : Result := complete (.jsr addr) (callSubroutine (addrAbs addr)) s

/-- RTS, 0x60 (R112). -/
def execRts (s : State) : Result := complete .rts rts s

end Sys2Proof.Machine
end

