-- ==== Sys2Proof/Machine/LoadStore.lean ====
section
/-! DEFINITION. Loads, accumulator transfers and stores (R70 to R79). -/

namespace Sys2Proof.Machine

/-! ### The handlers -/

/-- LDA (R70). -/
def lda (operand : State → Byte) (s : State) : State := (s.setA (operand s)).setZN (operand s)

/-- LDX (R71). -/
def ldx (operand : State → Byte) (s : State) : State := (s.setX (operand s)).setZN (operand s)

/-- LDY (R72). -/
def ldy (operand : State → Byte) (s : State) : State := (s.setY (operand s)).setZN (operand s)

/-- TAX (R73). -/
def tax (s : State) : State := (s.setX s.a).setZN s.a

/-- TAY (R74). -/
def tay (s : State) : State := (s.setY s.a).setZN s.a

/-- TXA (R75). -/
def txa (s : State) : State := (s.setA s.x).setZN s.x

/-- TYA (R76). -/
def tya (s : State) : State := (s.setA s.y).setZN s.y

/-- STA (R77). -/
def sta (addr : Addr) (s : State) : State := s.memWrite addr s.a

/-- STX (R78). -/
def stx (addr : Addr) (s : State) : State := s.memWrite addr s.x

/-- STY (R79). -/
def sty (addr : Addr) (s : State) : State := s.memWrite addr s.y

/-! ### The meanings -/

/-- LDA #imm, 0xA9 (R70). -/
def execLdaImm (imm : Byte) (s : State) : Result := complete (.ldaImm imm) (lda (operandImm imm)) s

/-- LDA zp, 0xA5 (R70). -/
def execLdaZp (addr : Byte) (s : State) : Result := complete (.ldaZp addr) (lda (operandZp addr)) s

/-- LDA abs, 0xAD (R70). -/
def execLdaAbs (addr : Addr) (s : State) : Result := complete (.ldaAbs addr) (lda (operandAbs addr)) s

/-- LDX #imm, 0xA2 (R71). -/
def execLdxImm (imm : Byte) (s : State) : Result := complete (.ldxImm imm) (ldx (operandImm imm)) s

/-- LDX zp, 0xA6 (R71). -/
def execLdxZp (addr : Byte) (s : State) : Result := complete (.ldxZp addr) (ldx (operandZp addr)) s

/-- LDX abs, 0xAE (R71). -/
def execLdxAbs (addr : Addr) (s : State) : Result := complete (.ldxAbs addr) (ldx (operandAbs addr)) s

/-- LDY #imm, 0xA0 (R72). -/
def execLdyImm (imm : Byte) (s : State) : Result := complete (.ldyImm imm) (ldy (operandImm imm)) s

/-- LDY zp, 0xA4 (R72). -/
def execLdyZp (addr : Byte) (s : State) : Result := complete (.ldyZp addr) (ldy (operandZp addr)) s

/-- LDY abs, 0xAC (R72). -/
def execLdyAbs (addr : Addr) (s : State) : Result := complete (.ldyAbs addr) (ldy (operandAbs addr)) s

/-- TAX, 0xAA (R73). -/
def execTax (s : State) : Result := complete .tax tax s

/-- TAY, 0xA8 (R74). -/
def execTay (s : State) : Result := complete .tay tay s

/-- TXA, 0x8A (R75). -/
def execTxa (s : State) : Result := complete .txa txa s

/-- TYA, 0x98 (R76). -/
def execTya (s : State) : Result := complete .tya tya s

/-- STA zp, 0x85 (R77). -/
def execStaZp (addr : Byte) (s : State) : Result := complete (.staZp addr) (sta (addrZp addr)) s

/-- STA abs, 0x8D (R77). -/
def execStaAbs (addr : Addr) (s : State) : Result := complete (.staAbs addr) (sta (addrAbs addr)) s

/-- STX zp, 0x86 (R78). -/
def execStxZp (addr : Byte) (s : State) : Result := complete (.stxZp addr) (stx (addrZp addr)) s

/-- STX abs, 0x8E (R78). -/
def execStxAbs (addr : Addr) (s : State) : Result := complete (.stxAbs addr) (stx (addrAbs addr)) s

/-- STY zp, 0x84 (R79). -/
def execStyZp (addr : Byte) (s : State) : Result := complete (.styZp addr) (sty (addrZp addr)) s

/-- STY abs, 0x8C (R79). -/
def execStyAbs (addr : Addr) (s : State) : Result := complete (.styAbs addr) (sty (addrAbs addr)) s

end Sys2Proof.Machine
end

