-- ==== Sys2Proof/Machine/Stack.lean ====
section
/-! DEFINITION. Stack, flag and no-operation instructions (R115 to R126). -/

namespace Sys2Proof.Machine

/-! ### The handlers -/

/-- PHA (R116). -/
def pha (s : State) : State := s.push s.a

/-- PHP (R117): the byte pushed is `P` as it stands (decision D29). -/
def php (s : State) : State := s.push s.p

/-- PLA (R118): whether Z and N follow the pulled value is the parameter `PLA_UPDATES_ZN`. -/
def pla (s : State) : State :=
  (s.pulled.setA s.pullValue).setP (if s.params.plaUpdatesZN then setZN s.pullValue.toNat s.p else s.p)

/-- PLP (R119). -/
def plp (s : State) : State := s.pulled.setP (pulledStatus s.pullValue)

/-- A flag instruction that sets its flag (R120, R122, R123). -/
def setFlagOf (f : Flag) (s : State) : State := s.setP (setFlag s.p f)

/-- A flag instruction that clears its flag (R121, R124, R125). -/
def clearFlagOf (f : Flag) (s : State) : State := s.setP (clearFlag s.p f)

/-- NOP (R126): nothing. -/
def nop (s : State) : State := s

/-! ### The meanings -/

/-- PHA, 0x48 (R116). -/
def execPha (s : State) : Result := complete .pha pha s

/-- PHP, 0x08 (R117). -/
def execPhp (s : State) : Result := complete .php php s

/-- PLA, 0x68 (R118). -/
def execPla (s : State) : Result := complete .pla pla s

/-- PLP, 0x28 (R119). -/
def execPlp (s : State) : Result := complete .plp plp s

/-- SEC, 0x38 (R120). -/
def execSec (s : State) : Result := complete .sec (setFlagOf .c) s

/-- CLC, 0x18 (R121). -/
def execClc (s : State) : Result := complete .clc (clearFlagOf .c) s

/-- SEI, 0x78 (R122). -/
def execSei (s : State) : Result := complete .sei (setFlagOf .i) s

/-- SED, 0xF8 (R123). -/
def execSed (s : State) : Result := complete .sed (setFlagOf .d) s

/-- CLD, 0xD8 (R124). -/
def execCld (s : State) : Result := complete .cld (clearFlagOf .d) s

/-- CLV, 0xB8 (R125). -/
def execClv (s : State) : Result := complete .clv (clearFlagOf .v) s

/-- NOP, 0xEA (R126). -/
def execNop (s : State) : Result := complete .nop nop s

end Sys2Proof.Machine
end

