-- ==== Sys2Proof/Machine/Unimplemented.lean ====
section
/-! DEFINITION. The 199 opcode bytes with the unimplemented marker (R57, R135 to R156): each raises
`UnimplementedOpcode(opcode)` with no state change. -/

namespace Sys2Proof.Machine

/-! ### ROL and ROR (R136, R137) -/

/-- ROL ZP, 0x26 (R136, R135). -/
def execRolZp (s : State) : Result := unimplemented .rolZp s

/-- ROL ACC, 0x2A (R136, R135). -/
def execRolAcc (s : State) : Result := unimplemented .rolAcc s

/-- ROL ABS, 0x2E (R136, R135). -/
def execRolAbs (s : State) : Result := unimplemented .rolAbs s

/-- ROL ZPX, 0x36 (R136, R135). -/
def execRolZpX (s : State) : Result := unimplemented .rolZpX s

/-- ROL ABSX, 0x3E (R136, R135). -/
def execRolAbsX (s : State) : Result := unimplemented .rolAbsX s

/-- ROR ZP, 0x66 (R137, R135). -/
def execRorZp (s : State) : Result := unimplemented .rorZp s

/-- ROR ACC, 0x6A (R137, R135). -/
def execRorAcc (s : State) : Result := unimplemented .rorAcc s

/-- ROR ABS, 0x6E (R137, R135). -/
def execRorAbs (s : State) : Result := unimplemented .rorAbs s

/-- ROR ZPX, 0x76 (R137, R135). -/
def execRorZpX (s : State) : Result := unimplemented .rorZpX s

/-- ROR ABSX, 0x7E (R137, R135). -/
def execRorAbsX (s : State) : Result := unimplemented .rorAbsX s

/-! ### The logical operations AND, ORA, EOR (R138 to R140) -/

/-- ORA INDX, 0x01 (R139, R135). -/
def execOraIndX (s : State) : Result := unimplemented .oraIndX s

/-- ORA ZP, 0x05 (R139, R135). -/
def execOraZp (s : State) : Result := unimplemented .oraZp s

/-- ORA IMM, 0x09 (R139, R135). -/
def execOraImm (s : State) : Result := unimplemented .oraImm s

/-- ORA ABS, 0x0D (R139, R135). -/
def execOraAbs (s : State) : Result := unimplemented .oraAbs s

/-- ORA INDY, 0x11 (R139, R135). -/
def execOraIndY (s : State) : Result := unimplemented .oraIndY s

/-- ORA ZPX, 0x15 (R139, R135). -/
def execOraZpX (s : State) : Result := unimplemented .oraZpX s

/-- ORA ABSY, 0x19 (R139, R135). -/
def execOraAbsY (s : State) : Result := unimplemented .oraAbsY s

/-- ORA ABSX, 0x1D (R139, R135). -/
def execOraAbsX (s : State) : Result := unimplemented .oraAbsX s

/-- AND INDX, 0x21 (R138, R135). -/
def execAndIndX (s : State) : Result := unimplemented .andIndX s

/-- AND ZP, 0x25 (R138, R135). -/
def execAndZp (s : State) : Result := unimplemented .andZp s

/-- AND IMM, 0x29 (R138, R135). -/
def execAndImm (s : State) : Result := unimplemented .andImm s

/-- AND ABS, 0x2D (R138, R135). -/
def execAndAbs (s : State) : Result := unimplemented .andAbs s

/-- AND INDY, 0x31 (R138, R135). -/
def execAndIndY (s : State) : Result := unimplemented .andIndY s

/-- AND ZPX, 0x35 (R138, R135). -/
def execAndZpX (s : State) : Result := unimplemented .andZpX s

/-- AND ABSY, 0x39 (R138, R135). -/
def execAndAbsY (s : State) : Result := unimplemented .andAbsY s

/-- AND ABSX, 0x3D (R138, R135). -/
def execAndAbsX (s : State) : Result := unimplemented .andAbsX s

/-- EOR INDX, 0x41 (R140, R135). -/
def execEorIndX (s : State) : Result := unimplemented .eorIndX s

/-- EOR ZP, 0x45 (R140, R135). -/
def execEorZp (s : State) : Result := unimplemented .eorZp s

/-- EOR IMM, 0x49 (R140, R135). -/
def execEorImm (s : State) : Result := unimplemented .eorImm s

/-- EOR ABS, 0x4D (R140, R135). -/
def execEorAbs (s : State) : Result := unimplemented .eorAbs s

/-- EOR INDY, 0x51 (R140, R135). -/
def execEorIndY (s : State) : Result := unimplemented .eorIndY s

/-- EOR ZPX, 0x55 (R140, R135). -/
def execEorZpX (s : State) : Result := unimplemented .eorZpX s

/-- EOR ABSY, 0x59 (R140, R135). -/
def execEorAbsY (s : State) : Result := unimplemented .eorAbsY s

/-- EOR ABSX, 0x5D (R140, R135). -/
def execEorAbsX (s : State) : Result := unimplemented .eorAbsX s

/-! ### SBC (R141) -/

/-- SBC INDX, 0xE1 (R141, R135). -/
def execSbcIndX (s : State) : Result := unimplemented .sbcIndX s

/-- SBC ZP, 0xE5 (R141, R135). -/
def execSbcZp (s : State) : Result := unimplemented .sbcZp s

/-- SBC IMM, 0xE9 (R141, R135). -/
def execSbcImm (s : State) : Result := unimplemented .sbcImm s

/-- SBC ABS, 0xED (R141, R135). -/
def execSbcAbs (s : State) : Result := unimplemented .sbcAbs s

/-- SBC INDY, 0xF1 (R141, R135). -/
def execSbcIndY (s : State) : Result := unimplemented .sbcIndY s

/-- SBC ZPX, 0xF5 (R141, R135). -/
def execSbcZpX (s : State) : Result := unimplemented .sbcZpX s

/-- SBC ABSY, 0xF9 (R141, R135). -/
def execSbcAbsY (s : State) : Result := unimplemented .sbcAbsY s

/-- SBC ABSX, 0xFD (R141, R135). -/
def execSbcAbsX (s : State) : Result := unimplemented .sbcAbsX s

/-! ### INC, DEC, INX, INY, DEX, DEY (R142 to R147) -/

/-- DEY IMP, 0x88 (R147, R135). -/
def execDey (s : State) : Result := unimplemented .dey s

/-- DEC ZP, 0xC6 (R143, R135). -/
def execDecZp (s : State) : Result := unimplemented .decZp s

/-- INY IMP, 0xC8 (R145, R135). -/
def execIny (s : State) : Result := unimplemented .iny s

/-- DEX IMP, 0xCA (R146, R135). -/
def execDex (s : State) : Result := unimplemented .dex s

/-- DEC ABS, 0xCE (R143, R135). -/
def execDecAbs (s : State) : Result := unimplemented .decAbs s

/-- DEC ZPX, 0xD6 (R143, R135). -/
def execDecZpX (s : State) : Result := unimplemented .decZpX s

/-- DEC ABSX, 0xDE (R143, R135). -/
def execDecAbsX (s : State) : Result := unimplemented .decAbsX s

/-- INC ZP, 0xE6 (R142, R135). -/
def execIncZp (s : State) : Result := unimplemented .incZp s

/-- INX IMP, 0xE8 (R144, R135). -/
def execInx (s : State) : Result := unimplemented .inx s

/-- INC ABS, 0xEE (R142, R135). -/
def execIncAbs (s : State) : Result := unimplemented .incAbs s

/-- INC ZPX, 0xF6 (R142, R135). -/
def execIncZpX (s : State) : Result := unimplemented .incZpX s

/-- INC ABSX, 0xFE (R142, R135). -/
def execIncAbsX (s : State) : Result := unimplemented .incAbsX s

/-! ### CLI, TSX, TXS (R148 to R150) -/

/-- CLI IMP, 0x58 (R148, R135). -/
def execCli (s : State) : Result := unimplemented .cli s

/-- TXS IMP, 0x9A (R150, R135). -/
def execTxs (s : State) : Result := unimplemented .txs s

/-- TSX IMP, 0xBA (R149, R135). -/
def execTsx (s : State) : Result := unimplemented .tsx s

/-! ### BRK and RTI (R151, R152) -/

/-- BRK IMP, 0x00 (R151, R135). -/
def execBrk (s : State) : Result := unimplemented .brk s

/-- RTI IMP, 0x40 (R152, R135). -/
def execRti (s : State) : Result := unimplemented .rti s

/-! ### Indexed and indirect forms of loads, stores, ADC and CMP (R154) -/

/-- ADC INDX, 0x61 (R154, R135). -/
def execAdcIndX (s : State) : Result := unimplemented .adcIndX s

/-- ADC INDY, 0x71 (R154, R135). -/
def execAdcIndY (s : State) : Result := unimplemented .adcIndY s

/-- ADC ZPX, 0x75 (R154, R135). -/
def execAdcZpX (s : State) : Result := unimplemented .adcZpX s

/-- ADC ABSY, 0x79 (R154, R135). -/
def execAdcAbsY (s : State) : Result := unimplemented .adcAbsY s

/-- ADC ABSX, 0x7D (R154, R135). -/
def execAdcAbsX (s : State) : Result := unimplemented .adcAbsX s

/-- STA INDX, 0x81 (R154, R135). -/
def execStaIndX (s : State) : Result := unimplemented .staIndX s

/-- STA INDY, 0x91 (R154, R135). -/
def execStaIndY (s : State) : Result := unimplemented .staIndY s

/-- STY ZPX, 0x94 (R154, R135). -/
def execStyZpX (s : State) : Result := unimplemented .styZpX s

/-- STA ZPX, 0x95 (R154, R135). -/
def execStaZpX (s : State) : Result := unimplemented .staZpX s

/-- STX ZPY, 0x96 (R154, R135). -/
def execStxZpY (s : State) : Result := unimplemented .stxZpY s

/-- STA ABSY, 0x99 (R154, R135). -/
def execStaAbsY (s : State) : Result := unimplemented .staAbsY s

/-- STA ABSX, 0x9D (R154, R135). -/
def execStaAbsX (s : State) : Result := unimplemented .staAbsX s

/-- LDA INDX, 0xA1 (R154, R135). -/
def execLdaIndX (s : State) : Result := unimplemented .ldaIndX s

/-- LDA INDY, 0xB1 (R154, R135). -/
def execLdaIndY (s : State) : Result := unimplemented .ldaIndY s

/-- LDY ZPX, 0xB4 (R154, R135). -/
def execLdyZpX (s : State) : Result := unimplemented .ldyZpX s

/-- LDA ZPX, 0xB5 (R154, R135). -/
def execLdaZpX (s : State) : Result := unimplemented .ldaZpX s

/-- LDX ZPY, 0xB6 (R154, R135). -/
def execLdxZpY (s : State) : Result := unimplemented .ldxZpY s

/-- LDA ABSY, 0xB9 (R154, R135). -/
def execLdaAbsY (s : State) : Result := unimplemented .ldaAbsY s

/-- LDY ABSX, 0xBC (R154, R135). -/
def execLdyAbsX (s : State) : Result := unimplemented .ldyAbsX s

/-- LDA ABSX, 0xBD (R154, R135). -/
def execLdaAbsX (s : State) : Result := unimplemented .ldaAbsX s

/-- LDX ABSY, 0xBE (R154, R135). -/
def execLdxAbsY (s : State) : Result := unimplemented .ldxAbsY s

/-- CMP INDX, 0xC1 (R154, R135). -/
def execCmpIndX (s : State) : Result := unimplemented .cmpIndX s

/-- CMP INDY, 0xD1 (R154, R135). -/
def execCmpIndY (s : State) : Result := unimplemented .cmpIndY s

/-- CMP ZPX, 0xD5 (R154, R135). -/
def execCmpZpX (s : State) : Result := unimplemented .cmpZpX s

/-- CMP ABSY, 0xD9 (R154, R135). -/
def execCmpAbsY (s : State) : Result := unimplemented .cmpAbsY s

/-- CMP ABSX, 0xDD (R154, R135). -/
def execCmpAbsX (s : State) : Result := unimplemented .cmpAbsX s

/-! ### Memory forms of ASL and LSR (R155) -/

/-- ASL ZP, 0x06 (R155, R135). -/
def execAslZp (s : State) : Result := unimplemented .aslZp s

/-- ASL ABS, 0x0E (R155, R135). -/
def execAslAbs (s : State) : Result := unimplemented .aslAbs s

/-- ASL ZPX, 0x16 (R155, R135). -/
def execAslZpX (s : State) : Result := unimplemented .aslZpX s

/-- ASL ABSX, 0x1E (R155, R135). -/
def execAslAbsX (s : State) : Result := unimplemented .aslAbsX s

/-- LSR ZP, 0x46 (R155, R135). -/
def execLsrZp (s : State) : Result := unimplemented .lsrZp s

/-- LSR ABS, 0x4E (R155, R135). -/
def execLsrAbs (s : State) : Result := unimplemented .lsrAbs s

/-- LSR ZPX, 0x56 (R155, R135). -/
def execLsrZpX (s : State) : Result := unimplemented .lsrZpX s

/-- LSR ABSX, 0x5E (R155, R135). -/
def execLsrAbsX (s : State) : Result := unimplemented .lsrAbsX s

/-! ### JMP indirect (R156) -/

/-- JMP IND, 0x6C (R156, R135). -/
def execJmpInd (s : State) : Result := unimplemented .jmpInd s

/-! ### The 105 unofficial opcode bytes (R153) -/

/-- unofficial, 0x02 (R153, R135). -/
def execUnoff02 (s : State) : Result := unimplemented .unoff02 s

/-- unofficial, 0x03 (R153, R135). -/
def execUnoff03 (s : State) : Result := unimplemented .unoff03 s

/-- unofficial, 0x04 (R153, R135). -/
def execUnoff04 (s : State) : Result := unimplemented .unoff04 s

/-- unofficial, 0x07 (R153, R135). -/
def execUnoff07 (s : State) : Result := unimplemented .unoff07 s

/-- unofficial, 0x0B (R153, R135). -/
def execUnoff0B (s : State) : Result := unimplemented .unoff0B s

/-- unofficial, 0x0C (R153, R135). -/
def execUnoff0C (s : State) : Result := unimplemented .unoff0C s

/-- unofficial, 0x0F (R153, R135). -/
def execUnoff0F (s : State) : Result := unimplemented .unoff0F s

/-- unofficial, 0x12 (R153, R135). -/
def execUnoff12 (s : State) : Result := unimplemented .unoff12 s

/-- unofficial, 0x13 (R153, R135). -/
def execUnoff13 (s : State) : Result := unimplemented .unoff13 s

/-- unofficial, 0x14 (R153, R135). -/
def execUnoff14 (s : State) : Result := unimplemented .unoff14 s

/-- unofficial, 0x17 (R153, R135). -/
def execUnoff17 (s : State) : Result := unimplemented .unoff17 s

/-- unofficial, 0x1A (R153, R135). -/
def execUnoff1A (s : State) : Result := unimplemented .unoff1A s

/-- unofficial, 0x1B (R153, R135). -/
def execUnoff1B (s : State) : Result := unimplemented .unoff1B s

/-- unofficial, 0x1C (R153, R135). -/
def execUnoff1C (s : State) : Result := unimplemented .unoff1C s

/-- unofficial, 0x1F (R153, R135). -/
def execUnoff1F (s : State) : Result := unimplemented .unoff1F s

/-- unofficial, 0x22 (R153, R135). -/
def execUnoff22 (s : State) : Result := unimplemented .unoff22 s

/-- unofficial, 0x23 (R153, R135). -/
def execUnoff23 (s : State) : Result := unimplemented .unoff23 s

/-- unofficial, 0x27 (R153, R135). -/
def execUnoff27 (s : State) : Result := unimplemented .unoff27 s

/-- unofficial, 0x2B (R153, R135). -/
def execUnoff2B (s : State) : Result := unimplemented .unoff2B s

/-- unofficial, 0x2F (R153, R135). -/
def execUnoff2F (s : State) : Result := unimplemented .unoff2F s

/-- unofficial, 0x32 (R153, R135). -/
def execUnoff32 (s : State) : Result := unimplemented .unoff32 s

/-- unofficial, 0x33 (R153, R135). -/
def execUnoff33 (s : State) : Result := unimplemented .unoff33 s

/-- unofficial, 0x34 (R153, R135). -/
def execUnoff34 (s : State) : Result := unimplemented .unoff34 s

/-- unofficial, 0x37 (R153, R135). -/
def execUnoff37 (s : State) : Result := unimplemented .unoff37 s

/-- unofficial, 0x3A (R153, R135). -/
def execUnoff3A (s : State) : Result := unimplemented .unoff3A s

/-- unofficial, 0x3B (R153, R135). -/
def execUnoff3B (s : State) : Result := unimplemented .unoff3B s

/-- unofficial, 0x3C (R153, R135). -/
def execUnoff3C (s : State) : Result := unimplemented .unoff3C s

/-- unofficial, 0x3F (R153, R135). -/
def execUnoff3F (s : State) : Result := unimplemented .unoff3F s

/-- unofficial, 0x42 (R153, R135). -/
def execUnoff42 (s : State) : Result := unimplemented .unoff42 s

/-- unofficial, 0x43 (R153, R135). -/
def execUnoff43 (s : State) : Result := unimplemented .unoff43 s

/-- unofficial, 0x44 (R153, R135). -/
def execUnoff44 (s : State) : Result := unimplemented .unoff44 s

/-- unofficial, 0x47 (R153, R135). -/
def execUnoff47 (s : State) : Result := unimplemented .unoff47 s

/-- unofficial, 0x4B (R153, R135). -/
def execUnoff4B (s : State) : Result := unimplemented .unoff4B s

/-- unofficial, 0x4F (R153, R135). -/
def execUnoff4F (s : State) : Result := unimplemented .unoff4F s

/-- unofficial, 0x52 (R153, R135). -/
def execUnoff52 (s : State) : Result := unimplemented .unoff52 s

/-- unofficial, 0x53 (R153, R135). -/
def execUnoff53 (s : State) : Result := unimplemented .unoff53 s

/-- unofficial, 0x54 (R153, R135). -/
def execUnoff54 (s : State) : Result := unimplemented .unoff54 s

/-- unofficial, 0x57 (R153, R135). -/
def execUnoff57 (s : State) : Result := unimplemented .unoff57 s

/-- unofficial, 0x5A (R153, R135). -/
def execUnoff5A (s : State) : Result := unimplemented .unoff5A s

/-- unofficial, 0x5B (R153, R135). -/
def execUnoff5B (s : State) : Result := unimplemented .unoff5B s

/-- unofficial, 0x5C (R153, R135). -/
def execUnoff5C (s : State) : Result := unimplemented .unoff5C s

/-- unofficial, 0x5F (R153, R135). -/
def execUnoff5F (s : State) : Result := unimplemented .unoff5F s

/-- unofficial, 0x62 (R153, R135). -/
def execUnoff62 (s : State) : Result := unimplemented .unoff62 s

/-- unofficial, 0x63 (R153, R135). -/
def execUnoff63 (s : State) : Result := unimplemented .unoff63 s

/-- unofficial, 0x64 (R153, R135). -/
def execUnoff64 (s : State) : Result := unimplemented .unoff64 s

/-- unofficial, 0x67 (R153, R135). -/
def execUnoff67 (s : State) : Result := unimplemented .unoff67 s

/-- unofficial, 0x6B (R153, R135). -/
def execUnoff6B (s : State) : Result := unimplemented .unoff6B s

/-- unofficial, 0x6F (R153, R135). -/
def execUnoff6F (s : State) : Result := unimplemented .unoff6F s

/-- unofficial, 0x72 (R153, R135). -/
def execUnoff72 (s : State) : Result := unimplemented .unoff72 s

/-- unofficial, 0x73 (R153, R135). -/
def execUnoff73 (s : State) : Result := unimplemented .unoff73 s

/-- unofficial, 0x74 (R153, R135). -/
def execUnoff74 (s : State) : Result := unimplemented .unoff74 s

/-- unofficial, 0x77 (R153, R135). -/
def execUnoff77 (s : State) : Result := unimplemented .unoff77 s

/-- unofficial, 0x7A (R153, R135). -/
def execUnoff7A (s : State) : Result := unimplemented .unoff7A s

/-- unofficial, 0x7B (R153, R135). -/
def execUnoff7B (s : State) : Result := unimplemented .unoff7B s

/-- unofficial, 0x7C (R153, R135). -/
def execUnoff7C (s : State) : Result := unimplemented .unoff7C s

/-- unofficial, 0x7F (R153, R135). -/
def execUnoff7F (s : State) : Result := unimplemented .unoff7F s

/-- unofficial, 0x80 (R153, R135). -/
def execUnoff80 (s : State) : Result := unimplemented .unoff80 s

/-- unofficial, 0x82 (R153, R135). -/
def execUnoff82 (s : State) : Result := unimplemented .unoff82 s

/-- unofficial, 0x83 (R153, R135). -/
def execUnoff83 (s : State) : Result := unimplemented .unoff83 s

/-- unofficial, 0x87 (R153, R135). -/
def execUnoff87 (s : State) : Result := unimplemented .unoff87 s

/-- unofficial, 0x89 (R153, R135). -/
def execUnoff89 (s : State) : Result := unimplemented .unoff89 s

/-- unofficial, 0x8B (R153, R135). -/
def execUnoff8B (s : State) : Result := unimplemented .unoff8B s

/-- unofficial, 0x8F (R153, R135). -/
def execUnoff8F (s : State) : Result := unimplemented .unoff8F s

/-- unofficial, 0x92 (R153, R135). -/
def execUnoff92 (s : State) : Result := unimplemented .unoff92 s

/-- unofficial, 0x93 (R153, R135). -/
def execUnoff93 (s : State) : Result := unimplemented .unoff93 s

/-- unofficial, 0x97 (R153, R135). -/
def execUnoff97 (s : State) : Result := unimplemented .unoff97 s

/-- unofficial, 0x9B (R153, R135). -/
def execUnoff9B (s : State) : Result := unimplemented .unoff9B s

/-- unofficial, 0x9C (R153, R135). -/
def execUnoff9C (s : State) : Result := unimplemented .unoff9C s

/-- unofficial, 0x9E (R153, R135). -/
def execUnoff9E (s : State) : Result := unimplemented .unoff9E s

/-- unofficial, 0x9F (R153, R135). -/
def execUnoff9F (s : State) : Result := unimplemented .unoff9F s

/-- unofficial, 0xA3 (R153, R135). -/
def execUnoffA3 (s : State) : Result := unimplemented .unoffA3 s

/-- unofficial, 0xA7 (R153, R135). -/
def execUnoffA7 (s : State) : Result := unimplemented .unoffA7 s

/-- unofficial, 0xAB (R153, R135). -/
def execUnoffAB (s : State) : Result := unimplemented .unoffAB s

/-- unofficial, 0xAF (R153, R135). -/
def execUnoffAF (s : State) : Result := unimplemented .unoffAF s

/-- unofficial, 0xB2 (R153, R135). -/
def execUnoffB2 (s : State) : Result := unimplemented .unoffB2 s

/-- unofficial, 0xB3 (R153, R135). -/
def execUnoffB3 (s : State) : Result := unimplemented .unoffB3 s

/-- unofficial, 0xB7 (R153, R135). -/
def execUnoffB7 (s : State) : Result := unimplemented .unoffB7 s

/-- unofficial, 0xBB (R153, R135). -/
def execUnoffBB (s : State) : Result := unimplemented .unoffBB s

/-- unofficial, 0xBF (R153, R135). -/
def execUnoffBF (s : State) : Result := unimplemented .unoffBF s

/-- unofficial, 0xC2 (R153, R135). -/
def execUnoffC2 (s : State) : Result := unimplemented .unoffC2 s

/-- unofficial, 0xC3 (R153, R135). -/
def execUnoffC3 (s : State) : Result := unimplemented .unoffC3 s

/-- unofficial, 0xC7 (R153, R135). -/
def execUnoffC7 (s : State) : Result := unimplemented .unoffC7 s

/-- unofficial, 0xCB (R153, R135). -/
def execUnoffCB (s : State) : Result := unimplemented .unoffCB s

/-- unofficial, 0xCF (R153, R135). -/
def execUnoffCF (s : State) : Result := unimplemented .unoffCF s

/-- unofficial, 0xD2 (R153, R135). -/
def execUnoffD2 (s : State) : Result := unimplemented .unoffD2 s

/-- unofficial, 0xD3 (R153, R135). -/
def execUnoffD3 (s : State) : Result := unimplemented .unoffD3 s

/-- unofficial, 0xD4 (R153, R135). -/
def execUnoffD4 (s : State) : Result := unimplemented .unoffD4 s

/-- unofficial, 0xD7 (R153, R135). -/
def execUnoffD7 (s : State) : Result := unimplemented .unoffD7 s

/-- unofficial, 0xDA (R153, R135). -/
def execUnoffDA (s : State) : Result := unimplemented .unoffDA s

/-- unofficial, 0xDB (R153, R135). -/
def execUnoffDB (s : State) : Result := unimplemented .unoffDB s

/-- unofficial, 0xDC (R153, R135). -/
def execUnoffDC (s : State) : Result := unimplemented .unoffDC s

/-- unofficial, 0xDF (R153, R135). -/
def execUnoffDF (s : State) : Result := unimplemented .unoffDF s

/-- unofficial, 0xE2 (R153, R135). -/
def execUnoffE2 (s : State) : Result := unimplemented .unoffE2 s

/-- unofficial, 0xE3 (R153, R135). -/
def execUnoffE3 (s : State) : Result := unimplemented .unoffE3 s

/-- unofficial, 0xE7 (R153, R135). -/
def execUnoffE7 (s : State) : Result := unimplemented .unoffE7 s

/-- unofficial, 0xEB (R153, R135). -/
def execUnoffEB (s : State) : Result := unimplemented .unoffEB s

/-- unofficial, 0xEF (R153, R135). -/
def execUnoffEF (s : State) : Result := unimplemented .unoffEF s

/-- unofficial, 0xF2 (R153, R135). -/
def execUnoffF2 (s : State) : Result := unimplemented .unoffF2 s

/-- unofficial, 0xF3 (R153, R135). -/
def execUnoffF3 (s : State) : Result := unimplemented .unoffF3 s

/-- unofficial, 0xF4 (R153, R135). -/
def execUnoffF4 (s : State) : Result := unimplemented .unoffF4 s

/-- unofficial, 0xF7 (R153, R135). -/
def execUnoffF7 (s : State) : Result := unimplemented .unoffF7 s

/-- unofficial, 0xFA (R153, R135). -/
def execUnoffFA (s : State) : Result := unimplemented .unoffFA s

/-- unofficial, 0xFB (R153, R135). -/
def execUnoffFB (s : State) : Result := unimplemented .unoffFB s

/-- unofficial, 0xFC (R153, R135). -/
def execUnoffFC (s : State) : Result := unimplemented .unoffFC s

/-- unofficial, 0xFF (R153, R135). -/
def execUnoffFF (s : State) : Result := unimplemented .unoffFF s

end Sys2Proof.Machine
end

