-- ==== Sys2Proof/Machine/Dispatch.lean ====
section
/-! DEFINITION. The dispatch of an instruction to its meaning: one arm per constructor, in the opcode table's order. -/

namespace Sys2Proof.Machine

def exec (i : Instr) (s : State) : Host.Outcome State Fault Refusal :=
  match i with
  -- opcode bytes 0x00 to 0x0F
  | .brk => Sys2Proof.Machine.execBrk s
  | .oraIndX => Sys2Proof.Machine.execOraIndX s
  | .unoff02 => Sys2Proof.Machine.execUnoff02 s
  | .unoff03 => Sys2Proof.Machine.execUnoff03 s
  | .unoff04 => Sys2Proof.Machine.execUnoff04 s
  | .oraZp => Sys2Proof.Machine.execOraZp s
  | .aslZp => Sys2Proof.Machine.execAslZp s
  | .unoff07 => Sys2Proof.Machine.execUnoff07 s
  | .php => Sys2Proof.Machine.execPhp s
  | .oraImm => Sys2Proof.Machine.execOraImm s
  | .aslAcc => Sys2Proof.Machine.execAslAcc s
  | .unoff0B => Sys2Proof.Machine.execUnoff0B s
  | .unoff0C => Sys2Proof.Machine.execUnoff0C s
  | .oraAbs => Sys2Proof.Machine.execOraAbs s
  | .aslAbs => Sys2Proof.Machine.execAslAbs s
  | .unoff0F => Sys2Proof.Machine.execUnoff0F s
  -- opcode bytes 0x10 to 0x1F
  | .bpl rel => Sys2Proof.Machine.execBpl rel s
  | .oraIndY => Sys2Proof.Machine.execOraIndY s
  | .unoff12 => Sys2Proof.Machine.execUnoff12 s
  | .unoff13 => Sys2Proof.Machine.execUnoff13 s
  | .unoff14 => Sys2Proof.Machine.execUnoff14 s
  | .oraZpX => Sys2Proof.Machine.execOraZpX s
  | .aslZpX => Sys2Proof.Machine.execAslZpX s
  | .unoff17 => Sys2Proof.Machine.execUnoff17 s
  | .clc => Sys2Proof.Machine.execClc s
  | .oraAbsY => Sys2Proof.Machine.execOraAbsY s
  | .unoff1A => Sys2Proof.Machine.execUnoff1A s
  | .unoff1B => Sys2Proof.Machine.execUnoff1B s
  | .unoff1C => Sys2Proof.Machine.execUnoff1C s
  | .oraAbsX => Sys2Proof.Machine.execOraAbsX s
  | .aslAbsX => Sys2Proof.Machine.execAslAbsX s
  | .unoff1F => Sys2Proof.Machine.execUnoff1F s
  -- opcode bytes 0x20 to 0x2F
  | .jsr addr => Sys2Proof.Machine.execJsr addr s
  | .andIndX => Sys2Proof.Machine.execAndIndX s
  | .unoff22 => Sys2Proof.Machine.execUnoff22 s
  | .unoff23 => Sys2Proof.Machine.execUnoff23 s
  | .bitZp addr => Sys2Proof.Machine.execBitZp addr s
  | .andZp => Sys2Proof.Machine.execAndZp s
  | .rolZp => Sys2Proof.Machine.execRolZp s
  | .unoff27 => Sys2Proof.Machine.execUnoff27 s
  | .plp => Sys2Proof.Machine.execPlp s
  | .andImm => Sys2Proof.Machine.execAndImm s
  | .rolAcc => Sys2Proof.Machine.execRolAcc s
  | .unoff2B => Sys2Proof.Machine.execUnoff2B s
  | .bitAbs addr => Sys2Proof.Machine.execBitAbs addr s
  | .andAbs => Sys2Proof.Machine.execAndAbs s
  | .rolAbs => Sys2Proof.Machine.execRolAbs s
  | .unoff2F => Sys2Proof.Machine.execUnoff2F s
  -- opcode bytes 0x30 to 0x3F
  | .bmi rel => Sys2Proof.Machine.execBmi rel s
  | .andIndY => Sys2Proof.Machine.execAndIndY s
  | .unoff32 => Sys2Proof.Machine.execUnoff32 s
  | .unoff33 => Sys2Proof.Machine.execUnoff33 s
  | .unoff34 => Sys2Proof.Machine.execUnoff34 s
  | .andZpX => Sys2Proof.Machine.execAndZpX s
  | .rolZpX => Sys2Proof.Machine.execRolZpX s
  | .unoff37 => Sys2Proof.Machine.execUnoff37 s
  | .sec => Sys2Proof.Machine.execSec s
  | .andAbsY => Sys2Proof.Machine.execAndAbsY s
  | .unoff3A => Sys2Proof.Machine.execUnoff3A s
  | .unoff3B => Sys2Proof.Machine.execUnoff3B s
  | .unoff3C => Sys2Proof.Machine.execUnoff3C s
  | .andAbsX => Sys2Proof.Machine.execAndAbsX s
  | .rolAbsX => Sys2Proof.Machine.execRolAbsX s
  | .unoff3F => Sys2Proof.Machine.execUnoff3F s
  -- opcode bytes 0x40 to 0x4F
  | .rti => Sys2Proof.Machine.execRti s
  | .eorIndX => Sys2Proof.Machine.execEorIndX s
  | .unoff42 => Sys2Proof.Machine.execUnoff42 s
  | .unoff43 => Sys2Proof.Machine.execUnoff43 s
  | .unoff44 => Sys2Proof.Machine.execUnoff44 s
  | .eorZp => Sys2Proof.Machine.execEorZp s
  | .lsrZp => Sys2Proof.Machine.execLsrZp s
  | .unoff47 => Sys2Proof.Machine.execUnoff47 s
  | .pha => Sys2Proof.Machine.execPha s
  | .eorImm => Sys2Proof.Machine.execEorImm s
  | .lsrAcc => Sys2Proof.Machine.execLsrAcc s
  | .unoff4B => Sys2Proof.Machine.execUnoff4B s
  | .jmpAbs addr => Sys2Proof.Machine.execJmpAbs addr s
  | .eorAbs => Sys2Proof.Machine.execEorAbs s
  | .lsrAbs => Sys2Proof.Machine.execLsrAbs s
  | .unoff4F => Sys2Proof.Machine.execUnoff4F s
  -- opcode bytes 0x50 to 0x5F
  | .bvc rel => Sys2Proof.Machine.execBvc rel s
  | .eorIndY => Sys2Proof.Machine.execEorIndY s
  | .unoff52 => Sys2Proof.Machine.execUnoff52 s
  | .unoff53 => Sys2Proof.Machine.execUnoff53 s
  | .unoff54 => Sys2Proof.Machine.execUnoff54 s
  | .eorZpX => Sys2Proof.Machine.execEorZpX s
  | .lsrZpX => Sys2Proof.Machine.execLsrZpX s
  | .unoff57 => Sys2Proof.Machine.execUnoff57 s
  | .cli => Sys2Proof.Machine.execCli s
  | .eorAbsY => Sys2Proof.Machine.execEorAbsY s
  | .unoff5A => Sys2Proof.Machine.execUnoff5A s
  | .unoff5B => Sys2Proof.Machine.execUnoff5B s
  | .unoff5C => Sys2Proof.Machine.execUnoff5C s
  | .eorAbsX => Sys2Proof.Machine.execEorAbsX s
  | .lsrAbsX => Sys2Proof.Machine.execLsrAbsX s
  | .unoff5F => Sys2Proof.Machine.execUnoff5F s
  -- opcode bytes 0x60 to 0x6F
  | .rts => Sys2Proof.Machine.execRts s
  | .adcIndX => Sys2Proof.Machine.execAdcIndX s
  | .unoff62 => Sys2Proof.Machine.execUnoff62 s
  | .unoff63 => Sys2Proof.Machine.execUnoff63 s
  | .unoff64 => Sys2Proof.Machine.execUnoff64 s
  | .adcZp addr => Sys2Proof.Machine.execAdcZp addr s
  | .rorZp => Sys2Proof.Machine.execRorZp s
  | .unoff67 => Sys2Proof.Machine.execUnoff67 s
  | .pla => Sys2Proof.Machine.execPla s
  | .adcImm imm => Sys2Proof.Machine.execAdcImm imm s
  | .rorAcc => Sys2Proof.Machine.execRorAcc s
  | .unoff6B => Sys2Proof.Machine.execUnoff6B s
  | .jmpInd => Sys2Proof.Machine.execJmpInd s
  | .adcAbs addr => Sys2Proof.Machine.execAdcAbs addr s
  | .rorAbs => Sys2Proof.Machine.execRorAbs s
  | .unoff6F => Sys2Proof.Machine.execUnoff6F s
  -- opcode bytes 0x70 to 0x7F
  | .bvs rel => Sys2Proof.Machine.execBvs rel s
  | .adcIndY => Sys2Proof.Machine.execAdcIndY s
  | .unoff72 => Sys2Proof.Machine.execUnoff72 s
  | .unoff73 => Sys2Proof.Machine.execUnoff73 s
  | .unoff74 => Sys2Proof.Machine.execUnoff74 s
  | .adcZpX => Sys2Proof.Machine.execAdcZpX s
  | .rorZpX => Sys2Proof.Machine.execRorZpX s
  | .unoff77 => Sys2Proof.Machine.execUnoff77 s
  | .sei => Sys2Proof.Machine.execSei s
  | .adcAbsY => Sys2Proof.Machine.execAdcAbsY s
  | .unoff7A => Sys2Proof.Machine.execUnoff7A s
  | .unoff7B => Sys2Proof.Machine.execUnoff7B s
  | .unoff7C => Sys2Proof.Machine.execUnoff7C s
  | .adcAbsX => Sys2Proof.Machine.execAdcAbsX s
  | .rorAbsX => Sys2Proof.Machine.execRorAbsX s
  | .unoff7F => Sys2Proof.Machine.execUnoff7F s
  -- opcode bytes 0x80 to 0x8F
  | .unoff80 => Sys2Proof.Machine.execUnoff80 s
  | .staIndX => Sys2Proof.Machine.execStaIndX s
  | .unoff82 => Sys2Proof.Machine.execUnoff82 s
  | .unoff83 => Sys2Proof.Machine.execUnoff83 s
  | .styZp addr => Sys2Proof.Machine.execStyZp addr s
  | .staZp addr => Sys2Proof.Machine.execStaZp addr s
  | .stxZp addr => Sys2Proof.Machine.execStxZp addr s
  | .unoff87 => Sys2Proof.Machine.execUnoff87 s
  | .dey => Sys2Proof.Machine.execDey s
  | .unoff89 => Sys2Proof.Machine.execUnoff89 s
  | .txa => Sys2Proof.Machine.execTxa s
  | .unoff8B => Sys2Proof.Machine.execUnoff8B s
  | .styAbs addr => Sys2Proof.Machine.execStyAbs addr s
  | .staAbs addr => Sys2Proof.Machine.execStaAbs addr s
  | .stxAbs addr => Sys2Proof.Machine.execStxAbs addr s
  | .unoff8F => Sys2Proof.Machine.execUnoff8F s
  -- opcode bytes 0x90 to 0x9F
  | .bcc rel => Sys2Proof.Machine.execBcc rel s
  | .staIndY => Sys2Proof.Machine.execStaIndY s
  | .unoff92 => Sys2Proof.Machine.execUnoff92 s
  | .unoff93 => Sys2Proof.Machine.execUnoff93 s
  | .styZpX => Sys2Proof.Machine.execStyZpX s
  | .staZpX => Sys2Proof.Machine.execStaZpX s
  | .stxZpY => Sys2Proof.Machine.execStxZpY s
  | .unoff97 => Sys2Proof.Machine.execUnoff97 s
  | .tya => Sys2Proof.Machine.execTya s
  | .staAbsY => Sys2Proof.Machine.execStaAbsY s
  | .txs => Sys2Proof.Machine.execTxs s
  | .unoff9B => Sys2Proof.Machine.execUnoff9B s
  | .unoff9C => Sys2Proof.Machine.execUnoff9C s
  | .staAbsX => Sys2Proof.Machine.execStaAbsX s
  | .unoff9E => Sys2Proof.Machine.execUnoff9E s
  | .unoff9F => Sys2Proof.Machine.execUnoff9F s
  -- opcode bytes 0xA0 to 0xAF
  | .ldyImm imm => Sys2Proof.Machine.execLdyImm imm s
  | .ldaIndX => Sys2Proof.Machine.execLdaIndX s
  | .ldxImm imm => Sys2Proof.Machine.execLdxImm imm s
  | .unoffA3 => Sys2Proof.Machine.execUnoffA3 s
  | .ldyZp addr => Sys2Proof.Machine.execLdyZp addr s
  | .ldaZp addr => Sys2Proof.Machine.execLdaZp addr s
  | .ldxZp addr => Sys2Proof.Machine.execLdxZp addr s
  | .unoffA7 => Sys2Proof.Machine.execUnoffA7 s
  | .tay => Sys2Proof.Machine.execTay s
  | .ldaImm imm => Sys2Proof.Machine.execLdaImm imm s
  | .tax => Sys2Proof.Machine.execTax s
  | .unoffAB => Sys2Proof.Machine.execUnoffAB s
  | .ldyAbs addr => Sys2Proof.Machine.execLdyAbs addr s
  | .ldaAbs addr => Sys2Proof.Machine.execLdaAbs addr s
  | .ldxAbs addr => Sys2Proof.Machine.execLdxAbs addr s
  | .unoffAF => Sys2Proof.Machine.execUnoffAF s
  -- opcode bytes 0xB0 to 0xBF
  | .bcs rel => Sys2Proof.Machine.execBcs rel s
  | .ldaIndY => Sys2Proof.Machine.execLdaIndY s
  | .unoffB2 => Sys2Proof.Machine.execUnoffB2 s
  | .unoffB3 => Sys2Proof.Machine.execUnoffB3 s
  | .ldyZpX => Sys2Proof.Machine.execLdyZpX s
  | .ldaZpX => Sys2Proof.Machine.execLdaZpX s
  | .ldxZpY => Sys2Proof.Machine.execLdxZpY s
  | .unoffB7 => Sys2Proof.Machine.execUnoffB7 s
  | .clv => Sys2Proof.Machine.execClv s
  | .ldaAbsY => Sys2Proof.Machine.execLdaAbsY s
  | .tsx => Sys2Proof.Machine.execTsx s
  | .unoffBB => Sys2Proof.Machine.execUnoffBB s
  | .ldyAbsX => Sys2Proof.Machine.execLdyAbsX s
  | .ldaAbsX => Sys2Proof.Machine.execLdaAbsX s
  | .ldxAbsY => Sys2Proof.Machine.execLdxAbsY s
  | .unoffBF => Sys2Proof.Machine.execUnoffBF s
  -- opcode bytes 0xC0 to 0xCF
  | .cpyImm imm => Sys2Proof.Machine.execCpyImm imm s
  | .cmpIndX => Sys2Proof.Machine.execCmpIndX s
  | .unoffC2 => Sys2Proof.Machine.execUnoffC2 s
  | .unoffC3 => Sys2Proof.Machine.execUnoffC3 s
  | .cpyZp addr => Sys2Proof.Machine.execCpyZp addr s
  | .cmpZp addr => Sys2Proof.Machine.execCmpZp addr s
  | .decZp => Sys2Proof.Machine.execDecZp s
  | .unoffC7 => Sys2Proof.Machine.execUnoffC7 s
  | .iny => Sys2Proof.Machine.execIny s
  | .cmpImm imm => Sys2Proof.Machine.execCmpImm imm s
  | .dex => Sys2Proof.Machine.execDex s
  | .unoffCB => Sys2Proof.Machine.execUnoffCB s
  | .cpyAbs addr => Sys2Proof.Machine.execCpyAbs addr s
  | .cmpAbs addr => Sys2Proof.Machine.execCmpAbs addr s
  | .decAbs => Sys2Proof.Machine.execDecAbs s
  | .unoffCF => Sys2Proof.Machine.execUnoffCF s
  -- opcode bytes 0xD0 to 0xDF
  | .bne rel => Sys2Proof.Machine.execBne rel s
  | .cmpIndY => Sys2Proof.Machine.execCmpIndY s
  | .unoffD2 => Sys2Proof.Machine.execUnoffD2 s
  | .unoffD3 => Sys2Proof.Machine.execUnoffD3 s
  | .unoffD4 => Sys2Proof.Machine.execUnoffD4 s
  | .cmpZpX => Sys2Proof.Machine.execCmpZpX s
  | .decZpX => Sys2Proof.Machine.execDecZpX s
  | .unoffD7 => Sys2Proof.Machine.execUnoffD7 s
  | .cld => Sys2Proof.Machine.execCld s
  | .cmpAbsY => Sys2Proof.Machine.execCmpAbsY s
  | .unoffDA => Sys2Proof.Machine.execUnoffDA s
  | .unoffDB => Sys2Proof.Machine.execUnoffDB s
  | .unoffDC => Sys2Proof.Machine.execUnoffDC s
  | .cmpAbsX => Sys2Proof.Machine.execCmpAbsX s
  | .decAbsX => Sys2Proof.Machine.execDecAbsX s
  | .unoffDF => Sys2Proof.Machine.execUnoffDF s
  -- opcode bytes 0xE0 to 0xEF
  | .cpxImm imm => Sys2Proof.Machine.execCpxImm imm s
  | .sbcIndX => Sys2Proof.Machine.execSbcIndX s
  | .unoffE2 => Sys2Proof.Machine.execUnoffE2 s
  | .unoffE3 => Sys2Proof.Machine.execUnoffE3 s
  | .cpxZp addr => Sys2Proof.Machine.execCpxZp addr s
  | .sbcZp => Sys2Proof.Machine.execSbcZp s
  | .incZp => Sys2Proof.Machine.execIncZp s
  | .unoffE7 => Sys2Proof.Machine.execUnoffE7 s
  | .inx => Sys2Proof.Machine.execInx s
  | .sbcImm => Sys2Proof.Machine.execSbcImm s
  | .nop => Sys2Proof.Machine.execNop s
  | .unoffEB => Sys2Proof.Machine.execUnoffEB s
  | .cpxAbs addr => Sys2Proof.Machine.execCpxAbs addr s
  | .sbcAbs => Sys2Proof.Machine.execSbcAbs s
  | .incAbs => Sys2Proof.Machine.execIncAbs s
  | .unoffEF => Sys2Proof.Machine.execUnoffEF s
  -- opcode bytes 0xF0 to 0xFF
  | .beq rel => Sys2Proof.Machine.execBeq rel s
  | .sbcIndY => Sys2Proof.Machine.execSbcIndY s
  | .unoffF2 => Sys2Proof.Machine.execUnoffF2 s
  | .unoffF3 => Sys2Proof.Machine.execUnoffF3 s
  | .unoffF4 => Sys2Proof.Machine.execUnoffF4 s
  | .sbcZpX => Sys2Proof.Machine.execSbcZpX s
  | .incZpX => Sys2Proof.Machine.execIncZpX s
  | .unoffF7 => Sys2Proof.Machine.execUnoffF7 s
  | .sed => Sys2Proof.Machine.execSed s
  | .sbcAbsY => Sys2Proof.Machine.execSbcAbsY s
  | .unoffFA => Sys2Proof.Machine.execUnoffFA s
  | .unoffFB => Sys2Proof.Machine.execUnoffFB s
  | .unoffFC => Sys2Proof.Machine.execUnoffFC s
  | .sbcAbsX => Sys2Proof.Machine.execSbcAbsX s
  | .incAbsX => Sys2Proof.Machine.execIncAbsX s
  | .unoffFF => Sys2Proof.Machine.execUnoffFF s

end Sys2Proof.Machine
end

