-- ==== Sys2Proof/Machine/Cartridge.lean ====
section
/-! DEFINITION. The Cartridge Image, the loader, the address translator and reads of the program space
(R20, R36 to R42). -/

namespace Sys2Proof.Machine

/-! ### The named header fields (R20, R36): bytes 4 to 10 of the header -/

/-- `prgRomSize`: the number of 16384-byte units of PRG-ROM, header byte 4 (R20). -/
def CartridgeImage.prgRomSize (img : CartridgeImage) : Nat := img.header[4].toNat

/-- `chrRomSize`: the number of 8192-byte units of CHR-ROM, header byte 5 (R20). -/
def CartridgeImage.chrRomSize (img : CartridgeImage) : Nat := img.header[5].toNat

/-- `flag6`, header byte 6: bit 2 = trainer present (R20). -/
def CartridgeImage.flag6 (img : CartridgeImage) : Byte := img.header[6]

/-- `flag7`, header byte 7: stored, not interpreted (R20). -/
def CartridgeImage.flag7 (img : CartridgeImage) : Byte := img.header[7]

/-- `prgRamSize`, header byte 8: stored, not interpreted (R20). -/
def CartridgeImage.prgRamSize (img : CartridgeImage) : Byte := img.header[8]

/-- `flag9`, header byte 9: stored, not interpreted (R20). -/
def CartridgeImage.flag9 (img : CartridgeImage) : Byte := img.header[9]

/-- `flag10`, header byte 10: stored, not interpreted (R20). -/
def CartridgeImage.flag10 (img : CartridgeImage) : Byte := img.header[10]

/-! ### Loading a cartridge file (R36 to R38) -/

/-- `T` (R37): the trainer's length by `flag6[2]`. -/
def trainerLength (flag6 : Byte) : Nat := if flag6.getLsbD 2 then Config.trainerSize else 0

/-- `need` (R37): the file length a header declares. -/
def declaredLength (header : Vector Byte 16) : Nat :=
  Config.headerSize + trainerLength header[6] + header[4].toNat * Config.prgUnit + header[5].toNat * Config.chrUnit

/-- The bytes of `file` at the offsets `start .. start + n - 1` (R37). -/
def slice (file : List Byte) (start n : Nat) : List Byte := (file.drop start).take n

/-- The header of a file of at least 16 bytes (R37). -/
def headerOf (file : List Byte) (h : 16 ≤ file.length) : Vector Byte 16 :=
  ⟨(file.take 16).toArray, by simpa using h⟩

/-- The image of a file whose header is `header` (R37): the trainer if `flag6[2]`, then PRG-ROM, then CHR-ROM. -/
def imageOf (file : List Byte) (header : Vector Byte 16) : CartridgeImage where
  header := header
  trainer :=
    if header[6].getLsbD 2 then some (Region.ofBytes (slice file Config.headerSize Config.trainerSize)) else none
  prgRom :=
    Region.ofBytes (slice file (Config.headerSize + trainerLength header[6]) (header[4].toNat * Config.prgUnit))
  chrRom :=
    Region.ofBytes (slice file (Config.headerSize + trainerLength header[6] + header[4].toNat * Config.prgUnit)
      (header[5].toNat * Config.chrUnit))

/-- `Load(bytes)` up to its result (R37): none where it raises FormatError. The length below 16 is tested first, then the
magic, then the declared length (R165). Bytes past the declared length are ignored (decision D18). -/
def parseImage (file : List Byte) : Option CartridgeImage :=
  if h : 16 ≤ file.length then
    if file.take 4 = Config.magic then
      if declaredLength (headerOf file h) ≤ file.length then some (imageOf file (headerOf file h)) else none
    else none
  else none

/-- `Load(bytes)` (R37, R38): the image, or FormatError with nothing changed. The CPU State is not touched. -/
def load (file : List Byte) (s : State) : Result :=
  match parseImage file with
  | some img => .next { s with cart := some img }
  | none => raise .formatError

/-! ### The program space -/

/-- The `prgRom` of the machine: empty before any `Load` (R20, decision D19). -/
def State.prgRom (s : State) : Region :=
  match s.cart with
  | some img => img.prgRom
  | none => Region.empty

/-- `Translate(address)` (R40): the formula, for every 16-bit address (decision D23). -/
def translateAddress (a : Addr) : Int :=
  (((a.extractLsb' 12 4).toNat : Int) - 12) * 256 + ((a.extractLsb' 0 12).toNat : Int)

/-- `RomRead(off)` (R42): the byte of `prgRom` at an offset, or none where it raises OutOfRange. A negative offset is
never used to index from the end. -/
def State.romRead (s : State) (off : Int) : Option Byte :=
  if off < 0 then none else s.prgRom.read? off.toNat

end Sys2Proof.Machine
end

