-- ==== Sys2Proof/Machine/Fetch.lean ====
section
/-! DEFINITION. Instruction fetch on the ROM-driven path (R43), and placing an instruction's bytes where fetch reads. -/

namespace Sys2Proof.Machine

/-- The bytes of `prgRom` from an offset on, at most `n`, up to the first that cannot be read (R42). -/
def State.romBytes (s : State) (off : Int) : Nat → List Byte
  | 0 => []
  | n + 1 =>
    match s.romRead off with
    | some b => b :: s.romBytes (off + 1) n
    | none => []

/-- The bytes an instruction at `PC` may occupy: consecutive offsets from `Translate(PC)` on, of which `PC + 1` and
`PC + 2` are not translated again (R43, decision D15). -/
def State.fetchWindow (s : State) : List Byte := s.romBytes (translateAddress s.pc) 3

/-- The instruction at `PC`, or OutOfRange at the first byte of it that `prgRom` does not hold (R42, R43). The decoder asks
for no operand byte of an unimplemented opcode (decision D16). -/
def State.fetch (s : State) : Except Fault Instr :=
  match decode s.fetchWindow with
  | .ok i _ => .ok i
  | .truncated k => .error (.outOfRange (translateAddress s.pc + k))

/-- `FetchDecode()` (R43) as the rule writes it, byte by byte: the descriptor of the instruction at `PC`. -/
def State.fetchDecode (s : State) : Except Fault Descriptor :=
  let off := translateAddress s.pc
  match s.romRead off with
  | none => .error (.outOfRange off)
  | some opcode =>
    match (instrOf opcode 0).implemented, (instrOf opcode 0).size with
    | true, some 1 => .ok ⟨opcode.toNat, 1, [], 0⟩
    | true, some 2 =>
      match s.romRead (off + 1) with
      | none => .error (.outOfRange (off + 1))
      | some b1 => .ok ⟨opcode.toNat, 2, [b1], b1.toNat⟩
    | true, some _ =>
      match s.romRead (off + 1) with
      | none => .error (.outOfRange (off + 1))
      | some b1 =>
        match s.romRead (off + 2) with
        | none => .error (.outOfRange (off + 2))
        | some b2 => .ok ⟨opcode.toNat, 3, [b1, b2], b1.toNat + 256 * b2.toNat⟩
    | _, _ => .error (.unimplementedOpcode opcode)

/-! ### Placing an instruction (a stand-in for the host's `Load`) -/

/-- An image with one PRG unit of 0x00 bytes and no CHR unit, as `Load` gives it for such a file (R37). -/
def blankImage : CartridgeImage where
  header := #v[0x4E, 0x45, 0x53, 0x1A, 1, 0, 0, 0, 0, 0, 0, 0, 0, 0, 0, 0]
  trainer := none
  prgRom := ⟨Config.prgUnit, []⟩
  chrRom := Region.empty

/-- The image with room for a fetch at any offset `Translate` can give: an image too short for it is given one PRG unit,
none loaded becomes the blank image. -/
def State.roomyImage (s : State) : CartridgeImage :=
  match s.cart with
  | none => blankImage
  | some img =>
    if img.prgRom.size < Config.prgUnit then
      { img with header := img.header.set 4 1, prgRom := ⟨Config.prgUnit, img.prgRom.cells⟩ }
    else img

/-- The state with the bytes `bs` stored in `prgRom` from `Translate(PC)` on; where that offset is negative, no image lets
the fetch succeed and `PC` is put at the reset entry point first. -/
def State.placeAtPC (s : State) (bs : List Byte) : State :=
  let pc := if translateAddress s.pc < 0 then Config.resetPC else s.pc
  let img := s.roomyImage
  { s with pc := pc, cart := some { img with prgRom := img.prgRom.patch (translateAddress pc).toNat bs } }

end Sys2Proof.Machine
end

