-- ==== Sys2Proof/Machine/Step.lean ====
section
/-! DEFINITION. One step of the machine on the ROM-driven path, `RomStep()` (R43, R176). -/

namespace Sys2Proof.Machine

/-- `RomStep()` (R43): fetch the instruction at `PC` from `prgRom` and execute it (R176). -/
def step (s : State) : Result :=
  match s.fetch with
  | .ok i => exec i s
  | .error f => raise f

/-- The state whose next step fetches the opcode table's word `w`: its bytes stored in `prgRom` where `PC` fetches. -/
def State.withFetchWord (s : State) (nbits w : Nat) : State := s.placeAtPC (tableBytes nbits w)

end Sys2Proof.Machine
end

