-- ==== Sys2Proof/Machine/HostOps.lean ====
section
/-! DEFINITION. What the host may do: the operations it performs on the machine (R9, R177, decision D1) and the elements
it can read of it (R28). `Translate`, which reads no state, is Machine/Cartridge.lean's `translateAddress`. -/

namespace Sys2Proof.Machine

/-- `Step(d)` (R176) on the descriptor path: the descriptor is executed whatever `PC` and the cartridge are. A descriptor
that is not well-formed is refused (R27, decision D17). -/
def stepDescriptor (d : Descriptor) (s : State) : Result :=
  if d.wellFormed then exec d.instr s else .refused .malformedDescriptor

/-- `Reset()` (R180): the CPU State at its reset values. The image outlives it (R25, R39), and so do the parameters. -/
def resetState (s : State) : State := { State.reset with cart := s.cart, params := s.params }

/-- What the host may do to the machine (R177): the list is closed. The host writes no register and no memory cell
(decision D21). -/
inductive HostOp where
  | reset
  | load (file : List Byte)
  | step (d : Descriptor)
  | romStep
  deriving DecidableEq, Repr

/-- The outcome of a host operation (R177). -/
def hostStep : HostOp → State → Result
  | .reset, s => .next (resetState s)
  | .load file, s => load file s
  | .step d, s => stepDescriptor d s
  | .romStep, s => step s

/-- The state after a host operation, which a fault leaves as it was (R166, R167): the host may go on with it. -/
def hostRun (op : HostOp) (s : State) : State := stateAfter s (hostStep op s)

/-- A run (R190): operations the host issues one after the other, going on after a fault (R167). -/
def hostRuns : List HostOp → State → State
  | [], s => s
  | op :: ops, s => hostRuns ops (hostRun op s)

/-! ### What the host can read (R28, R177) -/

/-- The host's read ports (R28): `A,X,Y,P,SP,PC,cycle,memory`, the memory cell by cell. The list is closed: `pc_set` is
not readable, and neither are the model's parameters. -/
inductive HostPort where
  | a | x | y | p | sp | pc | cycle
  | memory (addr : Addr)
  deriving DecidableEq, Repr

/-- The value the host reads at a port: an unsigned integer in the element's width (R6). Reading changes nothing. -/
def hostRead : HostPort → State → Nat
  | .a, s => s.a.toNat
  | .x, s => s.x.toNat
  | .y, s => s.y.toNat
  | .p, s => s.p.toNat
  | .sp, s => s.sp.toNat
  | .pc, s => s.pc.toNat
  | .cycle, s => s.cycle
  | .memory addr, s => (s.memRead addr).toNat

/-- The image whose fields the host that loaded it can read (R28): the loader returns it (R37). -/
def hostImage (s : State) : Option CartridgeImage := s.cart

end Sys2Proof.Machine
end

