-- ==== Sys2Proof/Safety.lean ====
section
/-! DEFINITION. The terms claims are written in: the machine's invariant, and what an instruction leaves unchanged. -/

namespace Sys2Proof.Machine

/-! ### The invariant -/

/-- What every image `Load` produces satisfies (R20, R36): the magic, the trainer present iff `flag6[2]`, and each region
of the declared length with canonical cells. -/
structure CartridgeImage.wf (img : CartridgeImage) : Prop where
  magic : img.header.toList.take 4 = Config.magic
  trainerPresent : img.trainer.isSome = img.flag6.getLsbD 2
  trainerRegion : ∀ r, img.trainer = some r → r.size = Config.trainerSize ∧ r.wf
  prgSize : img.prgRom.size = img.prgRomSize * Config.prgUnit
  prgCells : img.prgRom.wf
  chrSize : img.chrRom.size = img.chrRomSize * Config.chrUnit
  chrCells : img.chrRom.wf

/-- The machine's invariant: the reserved bit of `P` is 1 and its break bit 0 (R15), the data memory is in canonical form
over its 65536 addresses (R17), and a loaded image is as `Load` makes it (R20). -/
structure State.Inv (s : State) : Prop where
  reserved : s.flag .r = true
  breakBit : s.flag .b = false
  memory : s.mem.wf
  image : ∀ img, s.cart = some img → img.wf

/-! ### Frames -/

/-- Every byte of data memory outside the listed addresses reads as before. -/
def MemoryExcept (written : List Addr) (s t : State) : Prop := ∀ a, a ∉ written → t.memRead a = s.memRead a

/-- Every flag outside the listed ones is as before. -/
def FlagsExcept (written : List Flag) (s t : State) : Prop := ∀ f, f ∉ written → t.flag f = s.flag f

/-- Z and N follow the value `v`, and every other flag outside the listed ones is as before (R86). -/
def ZNFollow (v : Byte) (written : List Flag) (s t : State) : Prop :=
  t.flag .z = decide (v = 0x00) ∧ t.flag .n = v.getLsbD 7 ∧ FlagsExcept (.z :: .n :: written) s t

/-- What every completed step does beside its handler's own effect (R176): the cycle cost is added, and neither the
cartridge image (R39) nor the parameters change. -/
def Retires (i : Instr) (s t : State) : Prop :=
  t.cycle = s.cycle + s.params.cost i.opcode ∧ t.cart = s.cart ∧ t.params = s.params

/-- The default end of a step (R100): `pc_set` is still false and `PC` has advanced by the size `n`. -/
def Advances (n : Addr) (s t : State) : Prop := t.pc = s.pc + n ∧ t.pcSet = false

/-! ### What the host can tell apart -/

/-- Two outcomes of a host operation are alike: the same fault, the same refusal, or next states that differ in `pc_set`
at most, which no read port of the host shows (R19, R28). -/
def AnswersAlike : Result → Result → Prop
  | .next t, .next u => u = { t with pcSet := u.pcSet } ∧ (∀ port, hostRead port u = hostRead port t) ∧
      hostImage u = hostImage t
  | .fault f, .fault g => f = g
  | .refused r, .refused q => r = q
  | _, _ => False

/-! ### Runs -/

/-- A step that goes on, or that ends the run as the source's harness expects: at an unimplemented opcode (R190, "a
controlled termination of emulation, not a crash"). -/
def SafeStep (s : State) : Prop :=
  (∃ t, step s = .next t) ∨ ∃ op, step s = .fault (.unimplementedOpcode op)

end Sys2Proof.Machine
end

