-- ==== Sys2Proof/Certificates/Slice0/Obligations.lean ====
section
/-! DEFINITION. The statements for the provers: what the numbered rules of the spec say of the machine.
Opcode bytes, sizes and the meaning of each mnemonic's name are the spec's own decisions D2 and D24 (log entry 9). No
statement rests on a value of the open parameters `CYCLES` and `PLA_UPDATES_ZN` (log entries 2 and 3). -/

open Sys2Proof Sys2Proof.Machine

/-! ### Terms of the statements -/

namespace Sys2Proof.Claims

/-- The implemented opcode bytes of size 1, as R54 lists them. -/
def oneByteOpcodes : List Byte :=
  [
   0x08, 0x0A, 0x18, 0x28, 0x38, 0x48, 0x4A, 0x60, 0x68, 0x78, 0x8A, 0x98, 0xA8, 0xAA, 0xB8, 0xD8, 0xEA, 0xF8]

/-- The implemented opcode bytes of size 2, as R54 lists them. -/
def twoByteOpcodes : List Byte :=
  [
   0x10, 0x24, 0x30, 0x50, 0x65, 0x69, 0x70, 0x84, 0x85, 0x86, 0x90, 0xA0, 0xA2, 0xA4, 0xA5, 0xA6, 0xA9, 0xB0,
   0xC0, 0xC4, 0xC5, 0xC9, 0xD0, 0xE0, 0xE4, 0xF0]

/-- The implemented opcode bytes of size 3, as R54 lists them. -/
def threeByteOpcodes : List Byte :=
  [
   0x20, 0x2C, 0x4C, 0x6D, 0x8C, 0x8D, 0x8E, 0xAC, 0xAD, 0xAE, 0xCC, 0xCD, 0xEC]

/-- The 57 implemented opcode bytes of R54. -/
def implementedOpcodes : List Byte := oneByteOpcodes ++ twoByteOpcodes ++ threeByteOpcodes

/-- Each listed instruction is encoded by the one opcode byte beside it and raises UnimplementedOpcode with that byte in
every state (R135), which the fault leaves as it was. -/
def RaiseUnimplemented (l : List (Instr × Byte)) : Prop :=
  ∀ p ∈ l, ∀ s, encode p.1 = [p.2] ∧ exec p.1 s = .fault (.unimplementedOpcode p.2) ∧ stateAfter s (exec p.1 s) = s

/-- A completed instruction that writes the register `A` at most, and the listed flags at most, and advances by `n`. -/
def OnlyA (n : Addr) (flags : List Flag) (i : Instr) (s t : State) : Prop :=
  t.x = s.x ∧ t.y = s.y ∧ t.sp = s.sp ∧ FlagsExcept flags s t ∧ MemoryExcept [] s t ∧ Advances n s t ∧ Retires i s t

/-- A completed instruction that writes no register but `P`, of it the listed flags at most, and advances by `n`. -/
def OnlyFlags (n : Addr) (flags : List Flag) (i : Instr) (s t : State) : Prop :=
  t.a = s.a ∧ OnlyA n flags i s t

/-- A completed control transfer or other instruction that writes neither `A`, `X`, `Y` nor `P`. -/
def KeepsAXYP (i : Instr) (s t : State) : Prop :=
  t.a = s.a ∧ t.x = s.x ∧ t.y = s.y ∧ t.p = s.p ∧ Retires i s t

/-- The offset of the file's PRG-ROM bytes less the header: the trainer's length (R36). -/
def fileTrainerLength (file : List Byte) : Nat := if (file.getD 6 0).getLsbD 2 then 512 else 0

/-- The length the header of a file declares (R36). -/
def fileNeed (file : List Byte) : Nat :=
  16 + fileTrainerLength file + (file.getD 4 0).toNat * 16384 + (file.getD 5 0).toNat * 8192

/-- A region that holds exactly the `n` bytes of the file from offset `start` on. -/
def HoldsBytes (r : Region) (file : List Byte) (start n : Nat) : Prop :=
  r.size = n ∧ ∀ k, k < n → r.read? k = file[start + k]?

end Sys2Proof.Claims

open Sys2Proof.Claims

/-! ### Reset (R25, R180, R181) -/

/-- R25: every register, flag and memory cell after reset; `Reset` does not change a loaded image. Rules R25 and R180;
that `pc_set` resets to false is the spec's decision D20 (log entry 18), that no image is loaded is D19 (log entry
17), that `Reset` keeps the parameters is the model's choice (log entry 2). -/
def Obligations.ResetGivesEveryElementItsValue : Prop :=
  (State.reset.cart = none) ∧
  (∀ s, ∃ t, hostStep .reset s = .next t ∧ t.cart = s.cart ∧ t.params = s.params) ∧
  (∀ t, (t = State.reset ∨ ∃ s, hostStep .reset s = .next t) →
    t.pc = 0xC000 ∧ t.a = 0x00 ∧ t.x = 0x00 ∧ t.y = 0x00 ∧ t.sp = 0xFD ∧ t.p = 0x24 ∧
    t.flag .c = false ∧ t.flag .z = false ∧ t.flag .i = true ∧ t.flag .d = false ∧
    t.flag .b = false ∧ t.flag .r = true ∧ t.flag .v = false ∧ t.flag .n = false ∧
    (∀ a, t.memRead a = 0x00) ∧ t.cycle = 0 ∧ t.pcSet = false)

/-- R181: the first byte fetched after `Load` and `Reset` is the first byte of the file's PRG-ROM region: file offset
16, or 16 + 512 with a trainer. The spec marks this rule as derived from R180 and R40. -/
def Obligations.FirstFetchAfterResetIsFirstPrgByte : Prop :=
  translateAddress 0xC000 = 0 ∧
  ∀ file s t u, hostStep (.load file) s = .next t → file.getD 4 0 ≠ 0 → hostStep .reset t = .next u →
    u.pc = 0xC000 ∧ u.romRead (translateAddress u.pc) = file[16 + fileTrainerLength file]?

/-! ### The invariant -/

/-- The state after reset satisfies the machine's invariant. The canonical form of memory is the model's own (log
entry 6). -/
def Obligations.ResetStateSatisfiesInvariant : Prop := State.reset.Inv

/-- Every step keeps the invariant (R15, R17, R20): the reserved bit stays 1 and the break bit 0, the data memory
stays canonical, the image stays as `Load` made it. The canonical form of memory is the model's own (log entry 6). -/
def Obligations.StepKeepsMachineInvariant : Prop := ∀ s t : State, s.Inv → step s = .next t → t.Inv

/-- Every operation of the host keeps the invariant, `Load` of any file and `Step` of any descriptor among them. That
the list of operations is closed is the spec's decision D1 and D21 (log entry 25). -/
def Obligations.HostOperationsKeepMachineInvariant : Prop :=
  ∀ (op : HostOp) (s t : State), s.Inv → hostStep op s = .next t → t.Inv

/-! ### Encoding and decoding (R50 to R60) -/

/-- Decoding the bytes of any instruction gives the instruction back and leaves the bytes after it. The words of an
instruction with the marker are its opcode byte alone (log entry 5). -/
def Obligations.DecodeOfEncodeIsTheInstruction : Prop :=
  ∀ (i : Instr) (rest : List Byte), decode (encode i ++ rest) = .ok i rest

/-- Whatever decodes is the encoding of what it decodes to: no bit is dropped. The words of an instruction with the
marker are its opcode byte alone (log entry 5). -/
def Obligations.EncodeOfDecodeIsTheBytes : Prop :=
  ∀ (bytes rest : List Byte) (i : Instr), decode bytes = .ok i rest → encode i ++ rest = bytes

/-- R60 with R54 and R57: the length is told from the opcode byte alone: 1, 2 or 3 bytes for the listed implemented
bytes; for any other byte the decoder reads the opcode byte alone and gives an instruction with the marker. Which byte
has which size is the spec's decision D2 (log entry 9); that no operand of a marked byte is read is D16 (log entries 5
and 15). -/
def Obligations.OpcodeByteTellsTheLength : Prop :=
  ∀ (op b1 b2 : Byte) (rest : List Byte),
    (op ∈ oneByteOpcodes → ∃ i, decode (op :: b1 :: b2 :: rest) = .ok i (b1 :: b2 :: rest) ∧
      i.opcode = op ∧ i.implemented = true ∧ i.size = some 1) ∧
    (op ∈ twoByteOpcodes → ∃ i, decode (op :: b1 :: b2 :: rest) = .ok i (b2 :: rest) ∧
      i.opcode = op ∧ i.implemented = true ∧ i.size = some 2 ∧ i.operandBytes = [b1]) ∧
    (op ∈ threeByteOpcodes → ∃ i, decode (op :: b1 :: b2 :: rest) = .ok i rest ∧
      i.opcode = op ∧ i.implemented = true ∧ i.size = some 3 ∧ i.operandBytes = [b1, b2]) ∧
    (op ∉ implementedOpcodes → ∃ i, decode (op :: b1 :: b2 :: rest) = .ok i (b1 :: b2 :: rest) ∧
      i.opcode = op ∧ i.implemented = false)

/-- A few words written out from the rules' encodings decode to their instructions (sanity). The opcode bytes are the
spec's decision D2 (log entry 9). -/
def Obligations.SpecWordsDecode : Prop :=
  decode [0xA9, 0x80] = .ok (.ldaImm 0x80) [] ∧ decode [0xAD, 0x00, 0xC0] = .ok (.ldaAbs 0xC000) [] ∧
  decode [0x8C, 0xFF, 0xFF] = .ok (.styAbs 0xFFFF) [] ∧ decode [0x69, 0x03] = .ok (.adcImm 0x03) [] ∧
  decode [0x0A] = .ok .aslAcc [] ∧ decode [0xE0, 0x20] = .ok (.cpxImm 0x20) [] ∧
  decode [0x24, 0x01] = .ok (.bitZp 0x01) [] ∧ decode [0x90, 0xFC] = .ok (.bcc 0xFC) [] ∧
  decode [0x4C, 0xF5, 0xC5] = .ok (.jmpAbs 0xC5F5) [] ∧ decode [0x20, 0x08, 0xC0] = .ok (.jsr 0xC008) [] ∧
  decode [0x68] = .ok .pla [] ∧ decode [0xB8] = .ok .clv [] ∧ decode [0xEA] = .ok .nop [] ∧
  decode [0x29, 0x0F] = .ok .andImm [0x0F] ∧ decode [0x02] = .ok .unoff02 []

/-! ### Fetch and step (R42, R43, R165, R176) -/

/-- R42: RomRead answers the byte of `prgRom` when the offset lies in it; a negative offset or one not below its
length has no byte, and the fetch of an opcode there raises OutOfRange with the offset. No image has length 0. That no
image has length 0 is the spec's decision D19 (log entry 17); that the fault carries the offset is D16 (log entry 15).
-/
def Obligations.RomReadIsBoundsChecked : Prop :=
  ∀ (s : State) (off : Int),
    ((off < 0 ∨ (s.prgRom.size : Int) ≤ off) → s.romRead off = none) ∧
    (0 ≤ off → off < s.prgRom.size → ∃ b, s.romRead off = some b ∧ s.prgRom.read? off.toNat = some b) ∧
    (s.cart = none → s.prgRom.size = 0) ∧
    (s.romRead (translateAddress s.pc) = none → step s = .fault (.outOfRange (translateAddress s.pc)))

/-- A step runs the decoded instruction: if the bytes of `prgRom` from `Translate(PC)` on are those of instruction
`i`, the step is `exec i` at that state (R43, R176). Nothing is added around exec: it moves `PC` itself. That the
operand bytes lie at the next offsets is the spec's decision D15 (log entry 15). -/
def Obligations.StepRunsTheEncodedInstruction : Prop :=
  ∀ (s : State) (i : Instr),
    (∀ (k : Nat) (b : Byte), (encode i)[k]? = some b → s.romRead (translateAddress s.pc + k) = some b) → step s = exec i s

/-- R43: RomStep is FetchDecode, then Step of the descriptor it builds; and what FetchDecode answers, case by case.
The offsets of the operand bytes are the spec's decision D15, the order of the faults and their payload D16 (log entry
15). -/
def Obligations.RomStepIsFetchDecodeThenStep : Prop :=
  ∀ s : State,
    (hostStep .romStep s = match s.fetchDecode with
      | .ok d => hostStep (.step d) s
      | .error f => .fault f) ∧
    (∀ f, s.fetchDecode = .error f → hostRun .romStep s = s) ∧
    (s.romRead (translateAddress s.pc) = none → s.fetchDecode = .error (.outOfRange (translateAddress s.pc))) ∧
    ∀ op, s.romRead (translateAddress s.pc) = some op →
      (op ∉ implementedOpcodes → s.fetchDecode = .error (.unimplementedOpcode op)) ∧
      (op ∈ oneByteOpcodes → s.fetchDecode = .ok ⟨op.toNat, 1, [], 0⟩) ∧
      (op ∈ twoByteOpcodes →
        (s.romRead (translateAddress s.pc + 1) = none → s.fetchDecode = .error (.outOfRange (translateAddress s.pc + 1))) ∧
        ∀ b1, s.romRead (translateAddress s.pc + 1) = some b1 → s.fetchDecode = .ok ⟨op.toNat, 2, [b1], b1.toNat⟩) ∧
      (op ∈ threeByteOpcodes →
        (s.romRead (translateAddress s.pc + 1) = none → s.fetchDecode = .error (.outOfRange (translateAddress s.pc + 1))) ∧
        ∀ b1, s.romRead (translateAddress s.pc + 1) = some b1 →
          (s.romRead (translateAddress s.pc + 2) = none → s.fetchDecode = .error (.outOfRange (translateAddress s.pc + 2))) ∧
          ∀ b2, s.romRead (translateAddress s.pc + 2) = some b2 →
            s.fetchDecode = .ok ⟨op.toNat, 3, [b1, b2], b1.toNat + 256 * b2.toNat⟩)

/-- R165: which fault a step raises, in order, and that it completes otherwise; what `Step(d)` and `Load` can raise.
The order and the payload are the spec's decision D16 (log entry 15). -/
def Obligations.FirstFaultMetIsRaised : Prop :=
  (∀ s : State,
    (s.romRead (translateAddress s.pc) = none → step s = .fault (.outOfRange (translateAddress s.pc))) ∧
    ∀ op, s.romRead (translateAddress s.pc) = some op →
      (op ∉ implementedOpcodes → step s = .fault (.unimplementedOpcode op)) ∧
      (op ∈ oneByteOpcodes → ∃ t, step s = .next t) ∧
      (op ∈ twoByteOpcodes ++ threeByteOpcodes → s.romRead (translateAddress s.pc + 1) = none →
        step s = .fault (.outOfRange (translateAddress s.pc + 1))) ∧
      (op ∈ twoByteOpcodes → s.romRead (translateAddress s.pc + 1) ≠ none → ∃ t, step s = .next t) ∧
      (op ∈ threeByteOpcodes → s.romRead (translateAddress s.pc + 1) ≠ none → s.romRead (translateAddress s.pc + 2) = none →
        step s = .fault (.outOfRange (translateAddress s.pc + 2))) ∧
      (op ∈ threeByteOpcodes → s.romRead (translateAddress s.pc + 1) ≠ none → s.romRead (translateAddress s.pc + 2) ≠ none →
        ∃ t, step s = .next t)) ∧
  (∀ (s : State) (d : Descriptor), d.wellFormed = true →
    (∃ t, stepDescriptor d s = .next t) ∨ stepDescriptor d s = .fault (.unimplementedOpcode (u8 d.opcode))) ∧
  (∀ (s : State) (file : List Byte), (∃ t, load file s = .next t) ∨ load file s = .fault .formatError)

/-- R162's consequence for a loaded image: with at least one PRG unit the step goes on or ends at an unimplemented
opcode exactly when `Translate(PC)` is not negative, and otherwise raises OutOfRange with that offset; with no PRG
unit every step raises OutOfRange. The spec marks this consequence as derived. -/
def Obligations.LoadedImageFaultsOnlyAtNegativeOffsets : Prop :=
  ∀ (s : State) (img : CartridgeImage), s.Inv → s.cart = some img →
    (1 ≤ img.prgRomSize → (SafeStep s ↔ 0 ≤ translateAddress s.pc) ∧
      (translateAddress s.pc < 0 → step s = .fault (.outOfRange (translateAddress s.pc)))) ∧
    (img.prgRomSize = 0 → step s = .fault (.outOfRange (translateAddress s.pc)))

/-- R27: which descriptors are well-formed, in the rule's words; any other is refused, and a well-formed one never is.
The refusal is the spec's decision D17 (log entry 8). -/
def Obligations.OnlyWellFormedDescriptorsAreExecuted : Prop :=
  ∀ (d : Descriptor) (s : State),
    (d.wellFormed = true ↔
      d.opcode < 256 ∧
      (u8 d.opcode ∈ oneByteOpcodes → d.size = 1 ∧ d.operandBytes.length = 0 ∧ d.value = 0) ∧
      (u8 d.opcode ∈ twoByteOpcodes → d.size = 2 ∧ d.operandBytes.length = 1 ∧ d.value ≤ 0xFF) ∧
      (u8 d.opcode ∈ threeByteOpcodes → d.size = 3 ∧ d.operandBytes.length = 2 ∧ d.value ≤ 0xFFFF)) ∧
    (d.wellFormed = false → stepDescriptor d s = .refused .malformedDescriptor) ∧
    (d.wellFormed = true → ∀ r, stepDescriptor d s ≠ .refused r) ∧
    (d.wellFormed = true → ∀ e : Descriptor, e.wellFormed = true → d.opcode = e.opcode → d.value = e.value →
      stepDescriptor d s = stepDescriptor e s)

/-- The descriptor path (R26, R52): the descriptor of an implemented instruction has the little-endian value of its
operand bytes, is well-formed, and executes that instruction whatever `PC` and the cartridge are. That the value is 0
for a one-byte instruction is the spec's decision D17 (log entry 8). -/
def Obligations.DescriptorPathExecutesTheInstruction : Prop :=
  ∀ (i : Instr) (s : State), i.implemented = true →
    i.descriptor.wellFormed = true ∧ i.descriptor.opcode = i.opcode.toNat ∧
    some i.descriptor.size = i.size ∧ i.descriptor.size = (encode i).length ∧
    (∀ b, i.operandBytes = [b] → i.descriptor.value = b.toNat) ∧
    (∀ b c, i.operandBytes = [b, c] → i.descriptor.value = b.toNat + 256 * c.toNat) ∧
    hostStep (.step i.descriptor) s = exec i s

/-- Placing a word of the opcode table (the model's stand-in for the host's `Load`): the very next step runs the
decoded instruction, and of the CPU State at most `PC` has changed, and that only where `Translate(PC)` is negative.
This is the model's choice, not a rule of the spec (log entry 1). -/
def Obligations.PlacedWordIsExecutedNext : Prop :=
  ∀ (s : State) (nbits w : Nat),
    (∀ i, decodeTableWord nbits w = some i → step (s.withFetchWord nbits w) = exec i (s.withFetchWord nbits w)) ∧
    s.withFetchWord nbits w =
      { s with pc := (s.withFetchWord nbits w).pc, cart := (s.withFetchWord nbits w).cart } ∧
    (0 ≤ translateAddress s.pc → (s.withFetchWord nbits w).pc = s.pc)

/-! ### The unimplemented marker (R57, R135 to R156) -/

/-- R54 and R57: the 57 listed opcode bytes execute in every state, and every other instruction raises
UnimplementedOpcode with its opcode byte in every state; there are 57 of the one and 199 of the other. Which bytes are
implemented is the spec's decisions D2 to D7 (log entries 9, 10 and 11). -/
def Obligations.ExactlyTheListedOpcodesExecute : Prop :=
  (∀ (i : Instr) (s : State),
    (i.opcode ∈ implementedOpcodes → ∃ t, exec i s = .next t) ∧
    (i.opcode ∉ implementedOpcodes → exec i s = .fault (.unimplementedOpcode i.opcode))) ∧
  implementedOpcodes.Nodup ∧ implementedOpcodes.length = 57 ∧
  ((List.range 256).filter fun n => BitVec.ofNat 8 n ∉ implementedOpcodes).length = 199

/-- R135: executing a marked opcode raises the fault on both paths, whatever the operands, and changes nothing, so
repeating the step repeats it; on the ROM-driven path no operand byte is needed. Which bytes have the marker is the
spec's decisions D2 to D7 (log entries 9, 10 and 11); that a descriptor's other fields do not matter is D17 (log entry
8), that `pc_set` too is as before is the model's reading of R166 (log entry 4). -/
def Obligations.MarkedOpcodeFaultsAndChangesNothing : Prop :=
  ∀ (s : State) (op : Byte), op ∉ implementedOpcodes →
    (∀ i : Instr, i.opcode = op → exec i s = .fault (.unimplementedOpcode op)) ∧
    (∀ d : Descriptor, d.opcode = op.toNat → stepDescriptor d s = .fault (.unimplementedOpcode op) ∧
      hostRun (.step d) s = s) ∧
    (s.romRead (translateAddress s.pc) = some op → step s = .fault (.unimplementedOpcode op) ∧ hostRun .romStep s = s ∧
      step (hostRun .romStep s) = .fault (.unimplementedOpcode op))

/-- R136 to R147: the official opcodes of ROL, ROR, AND, ORA, EOR, SBC, INC, DEC, INX, INY, DEX and DEY. That these
mnemonics are unimplemented is the spec's decision D3 (log entry 10), their bytes D2 (log entry 9). -/
def Obligations.UnlistedArithmeticMnemonicsFault : Prop :=
  RaiseUnimplemented
    [
       (.oraIndX, 0x01), (.oraZp, 0x05), (.oraImm, 0x09), (.oraAbs, 0x0D), (.oraIndY, 0x11), (.oraZpX, 0x15),
       (.oraAbsY, 0x19), (.oraAbsX, 0x1D), (.andIndX, 0x21), (.andZp, 0x25), (.rolZp, 0x26), (.andImm, 0x29),
       (.rolAcc, 0x2A), (.andAbs, 0x2D), (.rolAbs, 0x2E), (.andIndY, 0x31), (.andZpX, 0x35), (.rolZpX, 0x36),
       (.andAbsY, 0x39), (.andAbsX, 0x3D), (.rolAbsX, 0x3E), (.eorIndX, 0x41), (.eorZp, 0x45), (.eorImm, 0x49),
       (.eorAbs, 0x4D), (.eorIndY, 0x51), (.eorZpX, 0x55), (.eorAbsY, 0x59), (.eorAbsX, 0x5D), (.rorZp, 0x66),
       (.rorAcc, 0x6A), (.rorAbs, 0x6E), (.rorZpX, 0x76), (.rorAbsX, 0x7E), (.dey, 0x88), (.decZp, 0xC6),
       (.iny, 0xC8), (.dex, 0xCA), (.decAbs, 0xCE), (.decZpX, 0xD6), (.decAbsX, 0xDE), (.sbcIndX, 0xE1),
       (.sbcZp, 0xE5), (.incZp, 0xE6), (.inx, 0xE8), (.sbcImm, 0xE9), (.sbcAbs, 0xED), (.incAbs, 0xEE),
       (.sbcIndY, 0xF1), (.sbcZpX, 0xF5), (.incZpX, 0xF6), (.sbcAbsY, 0xF9), (.sbcAbsX, 0xFD), (.incAbsX, 0xFE)]

/-- R148 to R152 and R154 to R156: CLI, TSX, TXS, BRK, RTI, the indexed and indirect forms, the memory shifts and JMP
indirect. That these are unimplemented is the spec's decisions D3, D4 and D6 (log entry 10), their bytes D2 (log entry
9). -/
def Obligations.UnlistedSystemMnemonicsAndFormsFault : Prop :=
  RaiseUnimplemented
    [
       (.brk, 0x00), (.aslZp, 0x06), (.aslAbs, 0x0E), (.aslZpX, 0x16), (.aslAbsX, 0x1E), (.rti, 0x40),
       (.lsrZp, 0x46), (.lsrAbs, 0x4E), (.lsrZpX, 0x56), (.cli, 0x58), (.lsrAbsX, 0x5E), (.adcIndX, 0x61),
       (.jmpInd, 0x6C), (.adcIndY, 0x71), (.adcZpX, 0x75), (.adcAbsY, 0x79), (.adcAbsX, 0x7D), (.staIndX, 0x81),
       (.staIndY, 0x91), (.styZpX, 0x94), (.staZpX, 0x95), (.stxZpY, 0x96), (.staAbsY, 0x99), (.txs, 0x9A),
       (.staAbsX, 0x9D), (.ldaIndX, 0xA1), (.ldaIndY, 0xB1), (.ldyZpX, 0xB4), (.ldaZpX, 0xB5), (.ldxZpY, 0xB6),
       (.ldaAbsY, 0xB9), (.tsx, 0xBA), (.ldyAbsX, 0xBC), (.ldaAbsX, 0xBD), (.ldxAbsY, 0xBE), (.cmpIndX, 0xC1),
       (.cmpIndY, 0xD1), (.cmpZpX, 0xD5), (.cmpAbsY, 0xD9), (.cmpAbsX, 0xDD)]

/-- R153: the 105 unofficial opcode bytes. Which bytes are unofficial is the spec's decision D2 (log entry 9). -/
def Obligations.UnofficialOpcodesFault : Prop :=
  RaiseUnimplemented
    [
       (.unoff02, 0x02), (.unoff03, 0x03), (.unoff04, 0x04), (.unoff07, 0x07), (.unoff0B, 0x0B),
       (.unoff0C, 0x0C), (.unoff0F, 0x0F), (.unoff12, 0x12), (.unoff13, 0x13), (.unoff14, 0x14),
       (.unoff17, 0x17), (.unoff1A, 0x1A), (.unoff1B, 0x1B), (.unoff1C, 0x1C), (.unoff1F, 0x1F),
       (.unoff22, 0x22), (.unoff23, 0x23), (.unoff27, 0x27), (.unoff2B, 0x2B), (.unoff2F, 0x2F),
       (.unoff32, 0x32), (.unoff33, 0x33), (.unoff34, 0x34), (.unoff37, 0x37), (.unoff3A, 0x3A),
       (.unoff3B, 0x3B), (.unoff3C, 0x3C), (.unoff3F, 0x3F), (.unoff42, 0x42), (.unoff43, 0x43),
       (.unoff44, 0x44), (.unoff47, 0x47), (.unoff4B, 0x4B), (.unoff4F, 0x4F), (.unoff52, 0x52),
       (.unoff53, 0x53), (.unoff54, 0x54), (.unoff57, 0x57), (.unoff5A, 0x5A), (.unoff5B, 0x5B),
       (.unoff5C, 0x5C), (.unoff5F, 0x5F), (.unoff62, 0x62), (.unoff63, 0x63), (.unoff64, 0x64),
       (.unoff67, 0x67), (.unoff6B, 0x6B), (.unoff6F, 0x6F), (.unoff72, 0x72), (.unoff73, 0x73),
       (.unoff74, 0x74), (.unoff77, 0x77), (.unoff7A, 0x7A), (.unoff7B, 0x7B), (.unoff7C, 0x7C),
       (.unoff7F, 0x7F), (.unoff80, 0x80), (.unoff82, 0x82), (.unoff83, 0x83), (.unoff87, 0x87),
       (.unoff89, 0x89), (.unoff8B, 0x8B), (.unoff8F, 0x8F), (.unoff92, 0x92), (.unoff93, 0x93),
       (.unoff97, 0x97), (.unoff9B, 0x9B), (.unoff9C, 0x9C), (.unoff9E, 0x9E), (.unoff9F, 0x9F),
       (.unoffA3, 0xA3), (.unoffA7, 0xA7), (.unoffAB, 0xAB), (.unoffAF, 0xAF), (.unoffB2, 0xB2),
       (.unoffB3, 0xB3), (.unoffB7, 0xB7), (.unoffBB, 0xBB), (.unoffBF, 0xBF), (.unoffC2, 0xC2),
       (.unoffC3, 0xC3), (.unoffC7, 0xC7), (.unoffCB, 0xCB), (.unoffCF, 0xCF), (.unoffD2, 0xD2),
       (.unoffD3, 0xD3), (.unoffD4, 0xD4), (.unoffD7, 0xD7), (.unoffDA, 0xDA), (.unoffDB, 0xDB),
       (.unoffDC, 0xDC), (.unoffDF, 0xDF), (.unoffE2, 0xE2), (.unoffE3, 0xE3), (.unoffE7, 0xE7),
       (.unoffEB, 0xEB), (.unoffEF, 0xEF), (.unoffF2, 0xF2), (.unoffF3, 0xF3), (.unoffF4, 0xF4),
       (.unoffF7, 0xF7), (.unoffFA, 0xFA), (.unoffFB, 0xFB), (.unoffFC, 0xFC), (.unoffFF, 0xFF)]

/-- R166 and R167: after a fault the machine goes on from the state before it, and every later operation, after any
run of others, answers as it would from that state with `pc_set` at any value: cleared, as line 1 of R176 would leave
it, or not. What the host reads afterwards (R28, where `pc_set` is not readable) is then the same too. That a fault
answers no state, so that `pc_set` is as before it, is the model's reading (log entry 4). That the machine keeps no
fault latch is the spec's decision D26 (log entry 23). -/
def Obligations.FaultLeavesTheStateAsItWas : Prop :=
  ∀ (op : HostOp) (s : State) (f : Fault), hostStep op s = .fault f →
    hostRun op s = s ∧
    ∀ (b : Bool) (ops : List HostOp) (later : HostOp),
      AnswersAlike (hostStep later (hostRuns ops (hostRun op s))) (hostStep later (hostRuns ops { s with pcSet := b }))

/-! ### What steps leave alone -/

/-- R39: no operation but `Load` changes the loaded image. -/
def Obligations.OnlyLoadChangesTheImage : Prop :=
  ∀ (op : HostOp) (s t : State), (∀ file, op ≠ .load file) → hostStep op s = .next t → t.cart = s.cart

/-- R47: nothing an instruction writes is seen by instruction fetch, at any program counter; nor is any content of the
data memory. The spec marks this rule as derived from R30, R39 and R43. -/
def Obligations.StoresAreNeverSeenByFetch : Prop :=
  (∀ (i : Instr) (s t : State) (a : Addr), exec i s = .next t →
    State.fetch { t with pc := a } = State.fetch { s with pc := a }) ∧
  (∀ (s : State) (m : Memory), State.fetch { s with mem := m } = s.fetch)

/-- R30: no instruction's effect depends on the cartridge image: the data space and the program space are disjoint.
That data accesses go to memory alone is the spec's decision D30 (log entry 20). -/
def Obligations.DataAccessesNeverReachTheImage : Prop :=
  ∀ (i : Instr) (s t : State) (c : Option CartridgeImage), exec i s = .next t →
    exec i { s with cart := c } = .next { t with cart := c }

/-- R18: each completed step adds its opcode's cost to `cycle`, a fault adds nothing, and no other state depends on
`cycle` (or on the value `pc_set` has between steps, R19). That the counter never wraps is the spec's decision D14
(log entry 22); the costs are open parameters (log entries 2 and 3). -/
def Obligations.CyclesAreCountedAndNeverRead : Prop :=
  State.reset.cycle = 0 ∧
  (∀ (i : Instr) (s t : State), exec i s = .next t → t.cycle = s.cycle + s.params.cost i.opcode) ∧
  (∀ (i : Instr) (s : State) (f : Fault), exec i s = .fault f → (stateAfter s (exec i s)).cycle = s.cycle) ∧
  (∀ (s : State) (c : Nat) (b : Bool),
    (∀ t, step s = .next t → ∃ k, t.cycle = s.cycle + k ∧
      step { s with cycle := c, pcSet := b } = .next { t with cycle := c + k }) ∧
    (∀ f, step s = .fault f → step { s with cycle := c, pcSet := b } = .fault f))

/-- R23: after a completed instruction `PC` is the address the instruction set (JMP, JSR, RTS, a taken branch) or the
old `PC` plus the instruction's size, never both. Where a taken branch lands is the spec's decision D8 (log entry 12),
RTS's byte order D10 (log entry 13), the wrap D13 (log entry 21). -/
def Obligations.ProgramCounterAfterAnyInstruction : Prop :=
  ∀ (i : Instr) (s t : State), exec i s = .next t →
    match i with
    | .jmpAbs a => t.pc = a ∧ t.pcSet = true
    | .jsr a => t.pc = a ∧ t.pcSet = true
    | .rts => t.pc = wordOf (s.memRead (zext16 (s.sp + 1))) (s.memRead (zext16 (s.sp + 2))) ∧ t.pcSet = true
    | .bcc rel => t.pc = (if s.flag .c then s.pc + 2 else s.pc + 2 + sext8 rel) ∧ t.pcSet = false
    | .bcs rel => t.pc = (if s.flag .c then s.pc + 2 + sext8 rel else s.pc + 2) ∧ t.pcSet = false
    | .beq rel => t.pc = (if s.flag .z then s.pc + 2 + sext8 rel else s.pc + 2) ∧ t.pcSet = false
    | .bne rel => t.pc = (if s.flag .z then s.pc + 2 else s.pc + 2 + sext8 rel) ∧ t.pcSet = false
    | .bmi rel => t.pc = (if s.flag .n then s.pc + 2 + sext8 rel else s.pc + 2) ∧ t.pcSet = false
    | .bpl rel => t.pc = (if s.flag .n then s.pc + 2 else s.pc + 2 + sext8 rel) ∧ t.pcSet = false
    | .bvc rel => t.pc = (if s.flag .v then s.pc + 2 else s.pc + 2 + sext8 rel) ∧ t.pcSet = false
    | .bvs rel => t.pc = (if s.flag .v then s.pc + 2 + sext8 rel else s.pc + 2) ∧ t.pcSet = false
    | j => t.pc = s.pc + BitVec.ofNat 16 (encode j).length ∧ t.pcSet = false

/-- The writers of the registers (R10 to R13): only the mnemonics each rule names change it. -/
def Obligations.OnlyTheNamedMnemonicsWriteARegister : Prop :=
  ∀ (i : Instr) (s t : State), exec i s = .next t →
    (i.mnemonic ∉ ["LDA", "TXA", "TYA", "ADC", "ASL", "LSR", "PLA"] → t.a = s.a) ∧
    (i.mnemonic ∉ ["LDX", "TAX"] → t.x = s.x) ∧
    (i.mnemonic ∉ ["LDY", "TAY"] → t.y = s.y) ∧
    (i.mnemonic ∉ ["PHA", "PHP", "PLA", "PLP", "JSR", "RTS"] → t.sp = s.sp)

/-- The writers of each bit of `P` (R14): only the mnemonics the table names change it. -/
def Obligations.OnlyTheNamedMnemonicsWriteAFlag : Prop :=
  ∀ (i : Instr) (s t : State), exec i s = .next t →
    (i.mnemonic ∉ ["SEC", "CLC", "ADC", "ASL", "LSR", "CMP", "CPX", "CPY", "PLP"] → t.flag .c = s.flag .c) ∧
    (i.mnemonic ∉ ["LDA", "LDX", "LDY", "TAX", "TAY", "TXA", "TYA", "ADC", "ASL", "LSR", "CMP", "CPX", "CPY", "BIT",
      "PLA", "PLP"] → t.flag .z = s.flag .z ∧ t.flag .n = s.flag .n) ∧
    (i.mnemonic = "PLA" → s.params.plaUpdatesZN = false → t.p = s.p) ∧
    (i.mnemonic ∉ ["SEI", "PLP"] → t.flag .i = s.flag .i) ∧
    (i.mnemonic ∉ ["SED", "CLD", "PLP"] → t.flag .d = s.flag .d) ∧
    (i.mnemonic ∉ ["PLP"] → t.flag .b = s.flag .b ∧ t.flag .r = s.flag .r) ∧
    (i.mnemonic ∉ ["CLV", "ADC", "BIT", "PLP"] → t.flag .v = s.flag .v)

/-- R15: at reset bit 5 of `P` is 1 and bit 4 is 0; PLP makes them so, and every other completed instruction leaves
both as they were; so every completed instruction keeps them. The spec marks this invariant as derived. -/
def Obligations.ReservedBitsOfPKeepTheirValues : Prop :=
  (State.reset.flag .r = true ∧ State.reset.flag .b = false) ∧
  ∀ (i : Instr) (s t : State), exec i s = .next t →
    (i = .plp → t.flag .r = true ∧ t.flag .b = false) ∧
    (i ≠ .plp → t.flag .r = s.flag .r ∧ t.flag .b = s.flag .b) ∧
    (s.flag .r = true → s.flag .b = false → t.flag .r = true ∧ t.flag .b = false)

/-- R34's stores: an instruction other than STA, STX, STY, PHA, PHP and JSR leaves every byte of data memory as it
was. -/
def Obligations.OnlyStoresPushesAndCallsWriteMemory : Prop :=
  ∀ (i : Instr) (s t : State), exec i s = .next t →
    i.mnemonic ∉ ["STA", "STX", "STY", "PHA", "PHP", "JSR"] → MemoryExcept [] s t

/-- R49: the stack is the cells 0x0000 to 0x00FF: a push or a call changes no other byte; with `SP` at its reset value
0xFD the first push writes 0x00FC and a first JSR writes 0x00FD and 0x00FC, whatever else the state holds. Which of
JSR's two bytes goes where is the spec's decision D10 (log entry 13). -/
def Obligations.StackLiesInTheFirst256Cells : Prop :=
  (∀ (s t : State) (a : Addr), (∃ i ∈ [Instr.pha, .php, .jsr a], exec i s = .next t) →
    ∀ b : Addr, 0x100 ≤ b.toNat → t.memRead b = s.memRead b) ∧
  (∀ s t : State, s.sp = 0xFD →
    (exec .pha s = .next t → MemoryExcept [0x00FC] s t ∧ t.memRead 0x00FC = s.a) ∧
    (exec .php s = .next t → MemoryExcept [0x00FC] s t ∧ t.memRead 0x00FC = s.p) ∧
    (∀ a, exec (.jsr a) s = .next t → MemoryExcept [0x00FD, 0x00FC] s t ∧
      (t.memRead 0x00FD).toNat = (s.pc.toNat + 3) % 65536 / 256 ∧ (t.memRead 0x00FC).toNat = (s.pc.toNat + 3) % 256)) ∧
  (∀ (s u t : State), hostStep .reset s = .next u →
    u.sp = 0xFD ∧ ∀ a, exec (.jsr a) u = .next t → t.memRead 0x00FD = 0xC0 ∧ t.memRead 0x00FC = 0x03)

/-! ### The address translator and the loader (R36 to R41) -/

/-- R40 and R41: the translator's formula, its range, its shape within and across translator pages, that it is not
injective, and where it is negative. That the formula holds for every address is the spec's decision D23 and its
conflict C1 (log entry 14). -/
def Obligations.TranslateFormulaAndRange : Prop :=
  (∀ a : Addr, translateAddress a = (a.toNat / 4096 : Nat) * 256 + (a.toNat % 4096 : Nat) - 3072 ∧
    -3072 ≤ translateAddress a ∧ translateAddress a ≤ 4863 ∧
    (a.toNat % 4096 < 4095 → translateAddress (a + 1) = translateAddress a + 1) ∧
    (a.toNat < 0xF000 → translateAddress (a + 0x1000) = translateAddress a + 256) ∧
    (0xC000 ≤ a.toNat → 0 ≤ translateAddress a) ∧
    (a.toNat < 0xC000 → translateAddress a < 3840 ∧
      (translateAddress a < 0 ↔ a.toNat % 4096 < (12 - a.toNat / 4096) * 256))) ∧
  translateAddress 0xC000 = 0 ∧ translateAddress 0xC001 = 1 ∧ translateAddress 0xCFFF = 4095 ∧ translateAddress 0xD000 = 256 ∧
  translateAddress 0xC100 = 256 ∧ translateAddress 0xFFFF = 4863 ∧ translateAddress 0xB100 = 0 ∧ translateAddress 0xB0FF = -1 ∧
  translateAddress 0x0000 = -3072

/-- R36, R37 and R38: which files `Load` accepts, what the image then is, byte for byte, and that a rejected file
raises FormatError and leaves everything as it was. The corner cases are the spec's decision D18, the unit counts its
conflict C3 (log entry 16). -/
def Obligations.LoadReadsTheDeclaredRegions : Prop :=
  ∀ (file : List Byte) (s : State),
    ((file.length < 16 ∨ file.take 4 ≠ [0x4E, 0x45, 0x53, 0x1A] ∨ file.length < fileNeed file) →
      load file s = .fault .formatError ∧ hostRun (.load file) s = s) ∧
    (16 ≤ file.length → file.take 4 = [0x4E, 0x45, 0x53, 0x1A] → fileNeed file ≤ file.length →
      ∃ img, load file s = .next { s with cart := some img } ∧
        img.header.toList = file.take 16 ∧
        img.prgRomSize = (file.getD 4 0).toNat ∧ img.chrRomSize = (file.getD 5 0).toNat ∧
        img.flag6 = file.getD 6 0 ∧ img.flag7 = file.getD 7 0 ∧ img.prgRamSize = file.getD 8 0 ∧
        img.flag9 = file.getD 9 0 ∧ img.flag10 = file.getD 10 0 ∧
        (img.flag6.getLsbD 2 = false → img.trainer = none) ∧
        (img.flag6.getLsbD 2 = true → ∃ r, img.trainer = some r ∧ HoldsBytes r file 16 512) ∧
        HoldsBytes img.prgRom file (16 + fileTrainerLength file) (img.prgRomSize * 16384) ∧
        HoldsBytes img.chrRom file (16 + fileTrainerLength file + img.prgRomSize * 16384) (img.chrRomSize * 8192))

/-! ### Bit utilities and flag helpers (R85 to R87) -/

/-- R85: the bit utilities on any integer and any index, and the laws the source states. -/
def Obligations.BitUtilitiesActOnOneBit : Prop :=
  (∀ v i j : Nat,
    BitUtil.check v i = (if v.testBit i then 2 ^ i else 0) ∧
    (BitUtil.set v i).testBit j = (if j = i then true else v.testBit j) ∧
    (BitUtil.clear v i).testBit j = (if j = i then false else v.testBit j)) ∧
  (∀ src dst i : Nat, BitUtil.copy src dst i = if src.testBit i then BitUtil.set dst i else BitUtil.clear dst i) ∧
  (∀ v i : Nat, BitUtil.clear (BitUtil.set v i) i = BitUtil.clear v i ∧ BitUtil.check (BitUtil.set v i) i ≠ 0 ∧
    BitUtil.set (BitUtil.set v i) i = BitUtil.set v i ∧ BitUtil.clear (BitUtil.clear v i) i = BitUtil.clear v i) ∧
  (∀ v i : Nat, v < 256 → i < 8 → BitUtil.set v i < 256 ∧ BitUtil.clear v i < 256) ∧
  BitUtil.set 0xFF 8 = 0x1FF

/-- R86: SetZero, SetNegative and SetZN assign Z and N from the 8-bit truncation, both ways, and touch no other bit.
The spec marks the two halves of SetZN as derived from its definition. -/
def Obligations.SetZNAssignsZAndNOnly : Prop :=
  ∀ (v : Nat) (p : Byte),
    (∀ f, flagOf (setZero v p) f = if f = .z then decide (v % 256 = 0) else flagOf p f) ∧
    (∀ f, flagOf (setNegative v p) f = if f = .n then v.testBit 7 else flagOf p f) ∧
    (∀ f, flagOf (setZN v p) f =
      if f = .z then decide (v % 256 = 0) else if f = .n then v.testBit 7 else flagOf p f)

/-- R87: Compare assigns Z and N from the wrapped difference and C iff `r >= m`, and touches no other bit. -/
def Obligations.CompareAssignsZNAndCOnly : Prop :=
  ∀ (r m p : Byte),
    (∀ f, flagOf (compareFlags r m p) f =
      if f = .z then decide ((r.toNat + 256 - m.toNat) % 256 = 0)
      else if f = .n then ((r.toNat + 256 - m.toNat) % 256).testBit 7
      else if f = .c then decide (r.toNat ≥ m.toNat)
      else flagOf p f) ∧
    (flagOf (compareFlags r m p) .z = true ↔ r = m)

/-! ### Loads, transfers, stores (R70 to R79) -/

/-- R70: LDA. The opcode bytes and what the name says are the spec's decisions D2 and D24 (log entry 9); its
unimplemented forms D4 (log entry 10). -/
def Obligations.LoadAccumulator : Prop :=
  ∀ (s : State) (m z : Byte) (w : Addr),
    (∀ f ∈ [(Instr.ldaImm m, m, (2 : Addr)), (.ldaZp z, s.memRead (zext16 z), 2), (.ldaAbs w, s.memRead w, 3)],
      ∃ t, exec f.1 s = .next t ∧ t.a = f.2.1 ∧ ZNFollow f.2.1 [] s t ∧ OnlyA f.2.2 [.z, .n] f.1 s t) ∧
    encode (.ldaImm m) = [0xA9, m] ∧ encode (.ldaZp z) = [0xA5, z] ∧ encode (.ldaAbs w) = [0xAD, loByte w, hiByte w] ∧
    RaiseUnimplemented [(.ldaIndX, 0xA1), (.ldaIndY, 0xB1), (.ldaZpX, 0xB5), (.ldaAbsY, 0xB9), (.ldaAbsX, 0xBD)]

/-- R71: LDX. The opcode bytes and what the name says are the spec's decisions D2 and D24 (log entry 9); its
unimplemented forms D4 (log entry 10). -/
def Obligations.LoadIndexX : Prop :=
  ∀ (s : State) (m z : Byte) (w : Addr),
    (∀ f ∈ [(Instr.ldxImm m, m, (2 : Addr)), (.ldxZp z, s.memRead (zext16 z), 2), (.ldxAbs w, s.memRead w, 3)],
      ∃ t, exec f.1 s = .next t ∧ t.x = f.2.1 ∧ ZNFollow f.2.1 [] s t ∧
        t.a = s.a ∧ t.y = s.y ∧ t.sp = s.sp ∧ MemoryExcept [] s t ∧ Advances f.2.2 s t ∧ Retires f.1 s t) ∧
    encode (.ldxImm m) = [0xA2, m] ∧ encode (.ldxZp z) = [0xA6, z] ∧ encode (.ldxAbs w) = [0xAE, loByte w, hiByte w] ∧
    RaiseUnimplemented [(.ldxZpY, 0xB6), (.ldxAbsY, 0xBE)]

/-- R72: LDY. The opcode bytes and what the name says are the spec's decisions D2 and D24 (log entry 9); its
unimplemented forms D4 (log entry 10). -/
def Obligations.LoadIndexY : Prop :=
  ∀ (s : State) (m z : Byte) (w : Addr),
    (∀ f ∈ [(Instr.ldyImm m, m, (2 : Addr)), (.ldyZp z, s.memRead (zext16 z), 2), (.ldyAbs w, s.memRead w, 3)],
      ∃ t, exec f.1 s = .next t ∧ t.y = f.2.1 ∧ ZNFollow f.2.1 [] s t ∧
        t.a = s.a ∧ t.x = s.x ∧ t.sp = s.sp ∧ MemoryExcept [] s t ∧ Advances f.2.2 s t ∧ Retires f.1 s t) ∧
    encode (.ldyImm m) = [0xA0, m] ∧ encode (.ldyZp z) = [0xA4, z] ∧ encode (.ldyAbs w) = [0xAC, loByte w, hiByte w] ∧
    RaiseUnimplemented [(.ldyZpX, 0xB4), (.ldyAbsX, 0xBC)]

/-- R73 to R76: TAX, TAY, TXA, TYA. The opcode bytes and what the names say are the spec's decisions D2 and D24 (log
entry 9). -/
def Obligations.AccumulatorTransfers : Prop :=
  (∀ s : State,
    (∃ t, exec .tax s = .next t ∧ t.x = s.a ∧ ZNFollow s.a [] s t ∧
      t.a = s.a ∧ t.y = s.y ∧ t.sp = s.sp ∧ MemoryExcept [] s t ∧ Advances 1 s t ∧ Retires .tax s t) ∧
    (∃ t, exec .tay s = .next t ∧ t.y = s.a ∧ ZNFollow s.a [] s t ∧
      t.a = s.a ∧ t.x = s.x ∧ t.sp = s.sp ∧ MemoryExcept [] s t ∧ Advances 1 s t ∧ Retires .tay s t) ∧
    (∃ t, exec .txa s = .next t ∧ t.a = s.x ∧ ZNFollow s.x [] s t ∧ OnlyA 1 [.z, .n] .txa s t) ∧
    (∃ t, exec .tya s = .next t ∧ t.a = s.y ∧ ZNFollow s.y [] s t ∧ OnlyA 1 [.z, .n] .tya s t)) ∧
  encode .tax = [0xAA] ∧ encode .tay = [0xA8] ∧ encode .txa = [0x8A] ∧ encode .tya = [0x98]

/-- R77 to R79: STA, STX, STY. The address stored to is the operand, zero-extended in the zero-page form. The opcode
bytes and what the names say are the spec's decisions D2 and D24 (log entry 9); the unimplemented forms D4 (log entry
10). -/
def Obligations.StoreInstructions : Prop :=
  ∀ (s : State) (z : Byte) (w : Addr),
    (∀ f ∈ [(Instr.staZp z, zext16 z, s.a, (2 : Addr)), (.staAbs w, w, s.a, 3), (.stxZp z, zext16 z, s.x, 2),
        (.stxAbs w, w, s.x, 3), (.styZp z, zext16 z, s.y, 2), (.styAbs w, w, s.y, 3)],
      ∃ t, exec f.1 s = .next t ∧ t.memRead f.2.1 = f.2.2.1 ∧ MemoryExcept [f.2.1] s t ∧
        KeepsAXYP f.1 s t ∧ t.sp = s.sp ∧ Advances f.2.2.2 s t) ∧
    encode (.staZp z) = [0x85, z] ∧ encode (.staAbs w) = [0x8D, loByte w, hiByte w] ∧
    encode (.stxZp z) = [0x86, z] ∧ encode (.stxAbs w) = [0x8E, loByte w, hiByte w] ∧
    encode (.styZp z) = [0x84, z] ∧ encode (.styAbs w) = [0x8C, loByte w, hiByte w] ∧
    RaiseUnimplemented [(.staIndX, 0x81), (.staIndY, 0x91), (.staZpX, 0x95), (.staAbsY, 0x99), (.staAbsX, 0x9D), (.stxZpY, 0x96),
      (.styZpX, 0x94)]

/-! ### Arithmetic, shifts, compares, bit test (R88 to R94) -/

/-- R88: ADC, with the raw sum `A + m + C` as an integer. That the raw sum's sign bit is its bit 7 is the spec's
decision D28 (log entry 24). -/
def Obligations.AddWithCarry : Prop :=
  ∀ (s : State) (m z : Byte) (w : Addr),
    (∀ f ∈ [(Instr.adcImm m, m, (2 : Addr)), (.adcZp z, s.memRead (zext16 z), 2), (.adcAbs w, s.memRead w, 3)],
      ∃ t, exec f.1 s = .next t ∧
        (∀ raw : Nat, raw = s.a.toNat + f.2.1.toNat + (if s.flag .c then 1 else 0) →
          t.a = BitVec.ofNat 8 raw ∧ (t.flag .c = true ↔ 255 < raw) ∧
          (t.flag .v = true ↔ s.a.getLsbD 7 = f.2.1.getLsbD 7 ∧ raw.testBit 7 ≠ s.a.getLsbD 7)) ∧
        ZNFollow t.a [.c, .v] s t ∧ OnlyA f.2.2 [.c, .v, .z, .n] f.1 s t) ∧
    encode (.adcImm m) = [0x69, m] ∧ encode (.adcZp z) = [0x65, z] ∧ encode (.adcAbs w) = [0x6D, loByte w, hiByte w] ∧
    RaiseUnimplemented [(.adcIndX, 0x61), (.adcIndY, 0x71), (.adcZpX, 0x75), (.adcAbsY, 0x79), (.adcAbsX, 0x7D)]

/-- ADC's V is signed overflow and its C unsigned overflow (R95), in each of its three forms, and the decimal flag
does not matter (R88). That the raw sum's sign bit is its bit 7 is the spec's decision D28 (log entry 24). -/
def Obligations.AdcReportsSignedAndUnsignedOverflow : Prop :=
  ∀ (s t : State) (imm z : Byte) (w : Addr),
    ∀ f ∈ [(Instr.adcImm imm, imm), (.adcZp z, s.memRead (zext16 z)), (.adcAbs w, s.memRead w)],
      exec f.1 s = .next t →
        (t.flag .v = true ↔ s.a.toInt + f.2.toInt + (if s.flag .c then 1 else 0) < -128 ∨
          127 < s.a.toInt + f.2.toInt + (if s.flag .c then 1 else 0)) ∧
        (t.flag .v = false → t.a.toInt = s.a.toInt + f.2.toInt + (if s.flag .c then 1 else 0)) ∧
        t.a.toNat + 256 * (if t.flag .c then 1 else 0) = s.a.toNat + f.2.toNat + (if s.flag .c then 1 else 0) ∧
        (∀ b, ∃ u, exec f.1 { s with p := assignFlag s.p .d b } = .next u ∧ u.a = t.a ∧ ∀ g, g ≠ .d → u.flag g = t.flag g)

/-- R89 and R90: ASL and LSR of the accumulator. The opcode bytes are the spec's decision D2 (log entry 9); the
unimplemented memory forms D6 (log entry 10). -/
def Obligations.AccumulatorShifts : Prop :=
  (∀ s : State,
    (∃ t, exec .aslAcc s = .next t ∧ t.a.toNat = s.a.toNat * 2 % 256 ∧ t.flag .c = s.a.getLsbD 7 ∧
      t.flag .n = s.a.getLsbD 6 ∧ ZNFollow t.a [.c] s t ∧ OnlyA 1 [.c, .z, .n] .aslAcc s t) ∧
    (∃ t, exec .lsrAcc s = .next t ∧ t.a.toNat = s.a.toNat / 2 ∧ t.flag .c = s.a.getLsbD 0 ∧
      t.flag .n = false ∧ ZNFollow t.a [.c] s t ∧ OnlyA 1 [.c, .z, .n] .lsrAcc s t)) ∧
  encode .aslAcc = [0x0A] ∧ encode .lsrAcc = [0x4A] ∧
  RaiseUnimplemented [(.aslZp, 0x06), (.aslAbs, 0x0E), (.aslZpX, 0x16), (.aslAbsX, 0x1E),
    (.lsrZp, 0x46), (.lsrAbs, 0x4E), (.lsrZpX, 0x56), (.lsrAbsX, 0x5E)]

/-- R91 to R93: CMP, CPX, CPY. That the three mnemonics are implemented with this helper is the spec's decision D7
(log entry 11). -/
def Obligations.CompareInstructions : Prop :=
  ∀ (s : State) (m z : Byte) (w : Addr),
    (∀ f ∈ [(Instr.cmpImm m, s.a, m, (2 : Addr)), (.cmpZp z, s.a, s.memRead (zext16 z), 2),
        (.cmpAbs w, s.a, s.memRead w, 3), (.cpxImm m, s.x, m, 2), (.cpxZp z, s.x, s.memRead (zext16 z), 2),
        (.cpxAbs w, s.x, s.memRead w, 3), (.cpyImm m, s.y, m, 2), (.cpyZp z, s.y, s.memRead (zext16 z), 2),
        (.cpyAbs w, s.y, s.memRead w, 3)],
      ∃ t, exec f.1 s = .next t ∧ ZNFollow (f.2.1 - f.2.2.1) [.c] s t ∧
        (t.flag .c = true ↔ f.2.2.1.toNat ≤ f.2.1.toNat) ∧ OnlyFlags f.2.2.2 [.c, .z, .n] f.1 s t) ∧
    encode (.cmpImm m) = [0xC9, m] ∧ encode (.cmpZp z) = [0xC5, z] ∧ encode (.cmpAbs w) = [0xCD, loByte w, hiByte w] ∧
    encode (.cpxImm m) = [0xE0, m] ∧ encode (.cpxZp z) = [0xE4, z] ∧ encode (.cpxAbs w) = [0xEC, loByte w, hiByte w] ∧
    encode (.cpyImm m) = [0xC0, m] ∧ encode (.cpyZp z) = [0xC4, z] ∧ encode (.cpyAbs w) = [0xCC, loByte w, hiByte w] ∧
    RaiseUnimplemented [(.cmpIndX, 0xC1), (.cmpIndY, 0xD1), (.cmpZpX, 0xD5), (.cmpAbsY, 0xD9), (.cmpAbsX, 0xDD)]

/-- R94: BIT. That V and N are copied both ways is the spec's decision D27 (log entry 24); the opcode bytes D2 (log
entry 9). -/
def Obligations.BitTest : Prop :=
  ∀ (s : State) (z : Byte) (w : Addr),
    (∀ f ∈ [(Instr.bitZp z, s.memRead (zext16 z), (2 : Addr)), (.bitAbs w, s.memRead w, 3)],
      ∃ t, exec f.1 s = .next t ∧ t.flag .v = f.2.1.getLsbD 6 ∧ t.flag .n = f.2.1.getLsbD 7 ∧
        (t.flag .z = true ↔ s.a &&& f.2.1 = 0) ∧ OnlyFlags f.2.2 [.v, .n, .z] f.1 s t) ∧
    encode (.bitZp z) = [0x24, z] ∧ encode (.bitAbs w) = [0x2C, loByte w, hiByte w]

/-! ### Control transfer (R100 to R112) -/

/-- R101 to R109: the eight branches. Taken, `PC` is the old `PC` plus 2 plus the signed displacement; not taken, the
old `PC` plus 2; both modulo 65536. Where a taken branch lands is the spec's decision D8 (log entry 12); flag and
polarity of each D24 (log entry 9). -/
def Obligations.ConditionalBranches : Prop :=
  ∀ (s : State) (rel : Byte),
    ∀ f ∈ [(Instr.bcc rel, (0x90 : Byte), Flag.c, false), (.bcs rel, 0xB0, .c, true), (.beq rel, 0xF0, .z, true),
        (.bne rel, 0xD0, .z, false), (.bmi rel, 0x30, .n, true), (.bpl rel, 0x10, .n, false),
        (.bvc rel, 0x50, .v, false), (.bvs rel, 0x70, .v, true)],
      encode f.1 = [f.2.1, rel] ∧
      ∃ t, exec f.1 s = .next t ∧
        (t.pc.toNat : Int) = ((s.pc.toNat : Int) + 2 + (if s.flag f.2.2.1 = f.2.2.2 then rel.toInt else 0)) % 65536 ∧
        t.pcSet = false ∧ KeepsAXYP f.1 s t ∧ t.sp = s.sp ∧ MemoryExcept [] s t

/-- R110: JMP absolute. The opcode bytes are the spec's decision D2 (log entry 9); the unimplemented indirect form D4
(log entry 10). -/
def Obligations.JumpAbsolute : Prop :=
  ∀ (s : State) (w : Addr),
    (∃ t, exec (.jmpAbs w) s = .next t ∧ t.pc = w ∧ t.pcSet = true ∧ KeepsAXYP (.jmpAbs w) s t ∧ t.sp = s.sp ∧
      MemoryExcept [] s t) ∧
    encode (.jmpAbs w) = [0x4C, loByte w, hiByte w] ∧ RaiseUnimplemented [(.jmpInd, 0x6C)]

/-- R111: JSR stores the return address `PC + 3`, high byte at `SP`, low byte one cell below (modulo 256), and lowers
`SP` by 2. That SP moves and where each byte goes are the spec's decisions D9 and D10 (log entry 13). -/
def Obligations.JumpToSubroutine : Prop :=
  ∀ (s : State) (w : Addr),
    (∃ t, exec (.jsr w) s = .next t ∧ t.pc = w ∧ t.pcSet = true ∧ t.sp = s.sp - 2 ∧
      (t.memRead (zext16 s.sp)).toNat = (s.pc.toNat + 3) % 65536 / 256 ∧
      (t.memRead (zext16 (s.sp - 1))).toNat = (s.pc.toNat + 3) % 256 ∧
      MemoryExcept [zext16 s.sp, zext16 (s.sp - 1)] s t ∧ KeepsAXYP (.jsr w) s t) ∧
    encode (.jsr w) = [0x20, loByte w, hiByte w]

/-- R112: RTS raises `SP` by 2 and jumps to exactly the address stored at `SP` (high) and one cell below (low). Which
byte is high is the spec's decision D10 (log entry 13). -/
def Obligations.ReturnFromSubroutine : Prop :=
  (∀ s : State, ∃ t, exec .rts s = .next t ∧ t.sp = s.sp + 2 ∧
    t.pc.toNat = (s.memRead (zext16 (s.sp + 2))).toNat * 256 + (s.memRead (zext16 (s.sp + 1))).toNat ∧
    t.pcSet = true ∧ KeepsAXYP .rts s t ∧ MemoryExcept [] s t) ∧
  encode .rts = [0x60]

/-- RTS undoes JSR (R111, R112): executed with the stack pointer and the two stack cells the JSR left, it returns to
the instruction after the JSR with the old `SP`. It rests on the spec's decisions D9 and D10 (log entry 13). -/
def Obligations.ReturnUndoesCall : Prop :=
  ∀ (s t u : State) (w : Addr), exec (.jsr w) s = .next t → u.sp = t.sp →
    (∀ a ∈ [zext16 s.sp, zext16 (s.sp - 1)], u.memRead a = t.memRead a) →
    ∃ v, exec .rts u = .next v ∧ v.pc = s.pc + 3 ∧ v.sp = s.sp

/-! ### Stack, flags, no-operation (R115 to R126) -/

/-- R116 and R117: PHA and PHP, with the push of R115. That PHP's byte has no bit 4 set is the spec's decision D29
(log entry 19); the opcode bytes D2 (log entry 9). -/
def Obligations.PushInstructions : Prop :=
  (∀ s : State, ∀ f ∈ [(Instr.pha, s.a), (.php, s.p)],
    ∃ t, exec f.1 s = .next t ∧ t.sp = s.sp - 1 ∧ t.memRead (zext16 (s.sp - 1)) = f.2 ∧
      MemoryExcept [zext16 (s.sp - 1)] s t ∧ KeepsAXYP f.1 s t ∧ Advances 1 s t) ∧
  encode .pha = [0x48] ∧ encode .php = [0x08]

/-- R118: PLA, for both values of the parameter `PLA_UPDATES_ZN`. The parameter is open (decision D11, log entry 2);
the opcode byte is D2 (log entry 9). -/
def Obligations.PullAccumulator : Prop :=
  (∀ s : State, ∃ t, exec .pla s = .next t ∧ t.a = s.memRead (zext16 s.sp) ∧ t.sp = s.sp + 1 ∧
    (s.params.plaUpdatesZN = true → ZNFollow t.a [] s t) ∧ (s.params.plaUpdatesZN = false → t.p = s.p) ∧
    t.x = s.x ∧ t.y = s.y ∧ MemoryExcept [] s t ∧ Advances 1 s t ∧ Retires .pla s t) ∧
  encode .pla = [0x68]

/-- R119: PLP loads every flag from the pulled byte but bit 5, which becomes 1, and bit 4, which becomes 0. The opcode
byte is the spec's decision D2 (log entry 9). -/
def Obligations.PullStatus : Prop :=
  (∀ s : State, ∃ t, exec .plp s = .next t ∧ t.sp = s.sp + 1 ∧
    t.flag .r = true ∧ t.flag .b = false ∧
    (∀ f, f ∉ [Flag.r, .b] → t.flag f = flagOf (s.memRead (zext16 s.sp)) f) ∧
    t.a = s.a ∧ t.x = s.x ∧ t.y = s.y ∧ MemoryExcept [] s t ∧ Advances 1 s t ∧ Retires .plp s t) ∧
  encode .plp = [0x28]

/-- A pull undoes a push (R115 to R119): PLA after PHA restores `A` and `SP`, PLP after PHP restores `P` (with bit 5
set and bit 4 clear, R15) and `SP`, whatever happened in between to anything but `SP` and the pushed cell. That PHP
pushes P as it stands is the spec's decision D29 (log entry 19). -/
def Obligations.PullUndoesPush : Prop :=
  ∀ (s t u : State), u.sp = t.sp → u.memRead (zext16 t.sp) = t.memRead (zext16 t.sp) →
    (exec .pha s = .next t → ∃ v, exec .pla u = .next v ∧ v.a = s.a ∧ v.sp = s.sp) ∧
    (exec .php s = .next t → s.flag .r = true → s.flag .b = false →
      ∃ v, exec .plp u = .next v ∧ v.p = s.p ∧ v.sp = s.sp)

/-- R184: a JSR overwrites the byte most recently pushed: PHA, JSR, RTS, PLA ends with the high byte of the return
address in `A`, while RTS itself returns correctly. The spec marks this hazard as derived; it rests on the decisions
D9 and D10 (log entry 13). -/
def Obligations.CallOverwritesThePushedByte : Prop :=
  ∀ (s t1 t2 t3 t4 : State) (w : Addr), exec .pha s = .next t1 → exec (.jsr w) t1 = .next t2 →
    exec .rts t2 = .next t3 → exec .pla t3 = .next t4 →
    t1.memRead (zext16 t1.sp) = s.a ∧ t2.memRead (zext16 t1.sp) = hiByte (t1.pc + 3) ∧
    t3.pc = t1.pc + 3 ∧ t3.sp = t1.sp ∧ t4.a = hiByte (t1.pc + 3) ∧ t4.sp = s.sp

/-- R120 to R125: each flag instruction sets or clears exactly its flag. The opcode bytes and what the names say are
the spec's decisions D2 and D24 (log entry 9). -/
def Obligations.FlagInstructions : Prop :=
  ∀ s : State, ∀ f ∈ [(Instr.sec, (0x38 : Byte), Flag.c, true), (.clc, 0x18, .c, false), (.sei, 0x78, .i, true),
      (.sed, 0xF8, .d, true), (.cld, 0xD8, .d, false), (.clv, 0xB8, .v, false)],
    encode f.1 = [f.2.1] ∧
    ∃ t, exec f.1 s = .next t ∧ t.flag f.2.2.1 = f.2.2.2 ∧ OnlyFlags 1 [f.2.2.1] f.1 s t

/-- R126: NOP changes nothing but `PC` and `cycle`. The opcode byte is the spec's decision D2 (log entry 9). -/
def Obligations.NoOperation : Prop :=
  (∀ s : State, exec .nop s =
    .next { s with pc := s.pc + 1, cycle := s.cycle + s.params.cost 0xEA, pcSet := false }) ∧
  encode .nop = [0xEA]
end

