-- ==== Sys2Proof/Laws/Memory.lean ====
section
/-! SUPPORT. The laws of cell lists: a read after a write, and that every operation keeps the canonical form
(R17, R20, R31). -/

namespace Sys2Proof.Machine

/-! ### Read after write -/

theorem Memory.read_erase (m : Memory) (a b : Nat) : (m.erase a).read b = if b = a then 0x00 else m.read b := by
  induction m with
  | nil => simp [Memory.erase, Memory.read]
  | cons c m ih =>
    obtain ⟨k, v⟩ := c
    simp only [Memory.erase, List.filter_cons, Memory.read] at ih ⊢
    by_cases hk : k = a
    · subst hk
      by_cases hb : b = k <;> simp_all [eq_comm]
    · by_cases hb : k = b
      · subst hb; simp [hk, Memory.read]
      · simp [hk, hb, Memory.read, ih]

theorem Memory.read_insert (m : Memory) (a b : Nat) (v : Byte) :
    (m.insert a v).read b = if b = a then v else m.read b := by
  induction m with
  | nil => simp [Memory.insert, Memory.read, eq_comm]
  | cons c m ih =>
    obtain ⟨k, w⟩ := c
    simp only [Memory.insert]
    split
    · simp [Memory.read, eq_comm]
    · split
      · rename_i h; subst h
        by_cases hb : b = a
        · simp [Memory.read, hb]
        · simp [Memory.read, hb, Ne.symm hb]
      · rename_i h
        by_cases hk : k = b
        · subst hk; simp [Memory.read, Ne.symm h]
        · simp [Memory.read, hk, ih]

/-- A read after a write gives the value written at its address, and the old byte elsewhere (R31). -/
@[simp] theorem Memory.read_write (m : Memory) (a b : Nat) (v : Byte) :
    (m.write a v).read b = if b = a then v else m.read b := by
  unfold Memory.write
  split
  · next h => rw [Memory.read_erase, h]
  · exact Memory.read_insert m a b v

/-! ### The canonical form -/

theorem Memory.mem_insert {m : Memory} {a : Nat} {v : Byte} {c : Host.Cell} (h : c ∈ m.insert a v) :
    c = (a, v) ∨ c ∈ m := by
  induction m with
  | nil => simpa [Memory.insert] using h
  | cons d m ih =>
    obtain ⟨k, w⟩ := d
    simp only [Memory.insert] at h
    split at h
    · simpa using h
    · split at h
      · rcases List.mem_cons.1 h with h | h
        · exact .inl h
        · exact .inr (List.mem_cons_of_mem _ h)
      · rcases List.mem_cons.1 h with h | h
        · exact .inr (h ▸ List.mem_cons_self)
        · exact (ih h).imp_right (List.mem_cons_of_mem _)

theorem Memory.canonical_erase {bound : Nat} {m : Memory} (a : Nat) (h : m.canonical bound) :
    (m.erase a).canonical bound :=
  ⟨h.1.filter _, fun c hc => h.2 c (List.mem_of_mem_filter hc)⟩

theorem Memory.canonical_insert {bound : Nat} {m : Memory} {a : Nat} {v : Byte} (ha : a < bound) (hv : v ≠ 0x00)
    (h : m.canonical bound) : (m.insert a v).canonical bound := by
  constructor
  · obtain ⟨hs, -⟩ := h
    induction m with
    | nil => simp [Memory.insert]
    | cons c m ih =>
      obtain ⟨k, w⟩ := c
      rw [List.pairwise_cons] at hs
      simp only [Memory.insert]
      split
      · next hlt =>
        refine List.pairwise_cons.2 ⟨fun d hd => ?_, List.pairwise_cons.2 hs⟩
        rcases List.mem_cons.1 hd with rfl | hd
        · exact hlt
        · exact Nat.lt_trans hlt (hs.1 d hd)
      · split
        · next heq => subst heq; exact List.pairwise_cons.2 hs
        · refine List.pairwise_cons.2 ⟨fun d hd => ?_, ih hs.2⟩
          rcases Memory.mem_insert hd with rfl | hd
          · show k < a
            omega
          · exact hs.1 d hd
  · intro c hc
    rcases Memory.mem_insert hc with rfl | hc
    · exact ⟨ha, hv⟩
    · exact h.2 c hc

/-- A write in range keeps the canonical form. -/
theorem Memory.canonical_write {bound : Nat} {m : Memory} {a : Nat} (ha : a < bound) (v : Byte)
    (h : m.canonical bound) : (m.write a v).canonical bound := by
  unfold Memory.write
  split
  · exact Memory.canonical_erase a h
  · next hv => exact Memory.canonical_insert ha hv h

theorem Memory.canonical_nil (bound : Nat) : Memory.canonical bound [] :=
  ⟨List.Pairwise.nil, fun _ h => absurd h List.not_mem_nil⟩

/-- Every store of the machine keeps the data memory in canonical form (R17, R31). -/
theorem Memory.wf_write {m : Memory} (a : Addr) (v : Byte) (h : m.wf) : Memory.wf (m.write a.toNat v) :=
  Memory.canonical_write a.isLt v h

/-! ### Reads of the machine's memory (R31) -/

@[simp] theorem State.memRead_memWrite (s : State) (a b : Addr) (v : Byte) :
    (s.memWrite a v).memRead b = if b = a then v else s.memRead b := by
  rw [State.memRead, State.memWrite, Memory.read_write]
  simp only [BitVec.toNat_inj, State.memRead]

theorem State.memRead_congr {s t : State} (h : t.mem = s.mem) (a : Addr) : t.memRead a = s.memRead a := by
  rw [State.memRead, State.memRead, h]

/-! ### Byte regions (R20, R37) -/

theorem cellsFrom_ge {k : Nat} {bs : List Byte} {c : Host.Cell} (h : c ∈ cellsFrom k bs) :
    k ≤ c.1 ∧ c.1 < k + bs.length ∧ c.2 ≠ 0x00 := by
  induction bs generalizing k with
  | nil => simp [cellsFrom] at h
  | cons b bs ih =>
    simp only [cellsFrom] at h
    split at h
    · have := ih h
      exact ⟨by omega, by simp only [List.length_cons]; omega, this.2.2⟩
    · next hb =>
      rcases List.mem_cons.1 h with rfl | h
      · exact ⟨Nat.le_refl _, by simp, hb⟩
      · have := ih h
        exact ⟨by omega, by simp only [List.length_cons]; omega, this.2.2⟩

theorem cellsFrom_pairwise (k : Nat) (bs : List Byte) : (cellsFrom k bs).Pairwise (fun c d => c.1 < d.1) := by
  induction bs generalizing k with
  | nil => simp [cellsFrom]
  | cons b bs ih =>
    simp only [cellsFrom]
    split
    · exact ih _
    · exact List.pairwise_cons.2 ⟨fun d hd => (cellsFrom_ge hd).1, ih _⟩

theorem read_cellsFrom (k : Nat) (bs : List Byte) (j : Nat) :
    Memory.read (cellsFrom k bs) (k + j) = bs.getD j 0x00 := by
  induction bs generalizing k j with
  | nil => simp [cellsFrom, Memory.read]
  | cons b bs ih =>
    simp only [cellsFrom]
    cases j with
    | zero =>
      split
      · next hb =>
        subst hb
        have : ∀ m : Memory, (∀ c ∈ m, k < c.1) → m.read k = 0x00 := by
          intro m hm
          induction m with
          | nil => rfl
          | cons c m ihm =>
            have := hm c List.mem_cons_self
            simp only [Memory.read]
            rw [if_neg (by omega)]
            exact ihm fun d hd => hm d (List.mem_cons_of_mem _ hd)
        simpa using this _ fun c hc => (cellsFrom_ge hc).1
      · simp [Memory.read]
    | succ j =>
      have h := ih (k + 1) j
      rw [show k + 1 + j = k + (j + 1) by omega] at h
      split
      · simpa using h
      · simpa [Memory.read] using h

/-- A region made of a byte sequence holds exactly that sequence. -/
@[simp] theorem Region.read?_ofBytes (bs : List Byte) (j : Nat) : (Region.ofBytes bs).read? j = bs[j]? := by
  unfold Region.read? Region.ofBytes
  have h := read_cellsFrom 0 bs j
  rw [Nat.zero_add] at h
  by_cases hj : j < bs.length <;> simp [hj, h]

@[simp] theorem Region.size_ofBytes (bs : List Byte) : (Region.ofBytes bs).size = bs.length := rfl

theorem Region.wf_ofBytes (bs : List Byte) : (Region.ofBytes bs).wf := by
  refine ⟨cellsFrom_pairwise 0 bs, fun c hc => ?_⟩
  have := cellsFrom_ge hc
  exact ⟨by simpa using this.2.1, this.2.2⟩

@[simp] theorem Region.size_patch (r : Region) (off : Nat) (bs : List Byte) : (r.patch off bs).size = r.size := by
  induction bs generalizing r off with
  | nil => rfl
  | cons b bs ih => simp [Region.patch, ih]

theorem Region.wf_patch {r : Region} {off : Nat} {bs : List Byte} (h : r.wf) (hb : off + bs.length ≤ r.size) :
    (r.patch off bs).wf := by
  induction bs generalizing r off with
  | nil => exact h
  | cons b bs ih =>
    simp only [List.length_cons] at hb
    exact ih (r := ⟨r.size, _⟩) (Memory.canonical_write (show off < r.size by omega) b h)
      (show off + 1 + bs.length ≤ r.size by omega)

theorem Region.read_patch (r : Region) (off : Nat) (bs : List Byte) (j : Nat) :
    Memory.read (r.patch off bs).cells j =
      if off ≤ j ∧ j < off + bs.length then bs.getD (j - off) 0x00 else Memory.read r.cells j := by
  induction bs generalizing r off with
  | nil => simp [Region.patch, show ¬(off ≤ j ∧ j < off) by omega]
  | cons b bs ih =>
    simp only [Region.patch, ih, Memory.read_write, List.length_cons]
    by_cases h0 : j = off
    · subst h0; simp
    · by_cases h1 : off + 1 ≤ j ∧ j < off + 1 + bs.length
      · obtain ⟨n, rfl⟩ : ∃ n, j = off + 1 + n := ⟨j - (off + 1), by omega⟩
        rw [if_pos h1, if_pos (by omega)]
        simp [show off + 1 + n - off = n + 1 by omega]
      · rw [if_neg h1, if_neg h0, if_neg (by omega)]

/-- A patched region reads the new bytes where they lie and the old ones elsewhere. -/
theorem Region.read?_patch (r : Region) (off : Nat) (bs : List Byte) (j : Nat) (h : off + bs.length ≤ r.size) :
    (r.patch off bs).read? j = if off ≤ j ∧ j < off + bs.length then bs[j - off]? else r.read? j := by
  simp only [Region.read?, Region.size_patch, Region.read_patch]
  by_cases hj : off ≤ j ∧ j < off + bs.length
  · rw [if_pos hj, if_pos hj, if_pos (by omega), List.getD_eq_getElem?_getD,
      List.getElem?_eq_getElem (show j - off < bs.length by omega)]
    rfl
  · rw [if_neg hj, if_neg hj]

end Sys2Proof.Machine
end

