-- ==== Sys2Proof/Laws/Cartridge.lean ====
section
/-! SUPPORT. What `Load` can answer, said once, and that an image it makes is well-formed (R20, R36 to R38). -/

namespace Sys2Proof.Machine

theorem toList_headerOf (file : List Byte) (h : 16 ≤ file.length) : (headerOf file h).toList = file.take 16 := by
  simp [headerOf, Vector.toList]

theorem getElem_headerOf (file : List Byte) (h : 16 ≤ file.length) (k : Nat) (hk : k < 16) :
    (headerOf file h)[k] = file.getD k 0 := by
  simp [headerOf, List.getElem?_eq_getElem (show k < file.length by omega)]

theorem trainerLength_eq (flag6 : Byte) : trainerLength flag6 = 0 ∨ trainerLength flag6 = 512 := by
  unfold trainerLength; split <;> simp [Config.trainerSize]

/-- `Load` inverted: a load that succeeds passed the three tests and gives the image of the file. -/
theorem load_next {file : List Byte} {s t : State} (h : load file s = .next t) :
    ∃ h : 16 ≤ file.length, file.take 4 = Config.magic ∧ declaredLength (headerOf file h) ≤ file.length ∧
      t = { s with cart := some (imageOf file (headerOf file h)) } := by
  unfold load parseImage at h
  split at h
  · next img hi =>
    split at hi
    · next hl =>
      split at hi
      · next hm =>
        split at hi
        · next hn => cases hi; cases h; exact ⟨hl, hm, hn, rfl⟩
        · cases hi
      · cases hi
    · cases hi
  · cases h

/-- `Load` of a file that passes the three tests. -/
theorem load_of_tests {file : List Byte} (hl : 16 ≤ file.length) (hm : file.take 4 = Config.magic)
    (hn : declaredLength (headerOf file hl) ≤ file.length) (s : State) :
    load file s = .next { s with cart := some (imageOf file (headerOf file hl)) } := by
  have : parseImage file = some (imageOf file (headerOf file hl)) := by
    unfold parseImage
    rw [dif_pos hl, if_pos hm, if_pos hn]
  simp only [load, this]

/-- `Load` answers an image or FormatError, nothing else. -/
theorem load_cases (file : List Byte) (s : State) :
    (∃ img, load file s = .next { s with cart := some img }) ∨ load file s = .fault .formatError := by
  unfold load
  cases parseImage file with
  | some img => exact .inl ⟨img, rfl⟩
  | none => exact .inr rfl

/-- The length of a slice that lies in the file. -/
theorem length_slice {file : List Byte} {start n : Nat} (h : start + n ≤ file.length) :
    (slice file start n).length = n := by
  simp [slice]; omega

theorem getElem?_slice (file : List Byte) (start n k : Nat) (h : k < n) : (slice file start n)[k]? = file[start + k]? := by
  simp [slice, h]

/-- The image `Load` makes is well-formed (R20, R36). -/
theorem imageOf_wf {file : List Byte} (hl : 16 ≤ file.length) (hm : file.take 4 = Config.magic)
    (hn : declaredLength (headerOf file hl) ≤ file.length) : (imageOf file (headerOf file hl)).wf := by
  simp only [declaredLength] at hn
  refine ⟨?_, ?_, ?_, ?_, Region.wf_ofBytes _, ?_, Region.wf_ofBytes _⟩
  · show (headerOf file hl).toList.take 4 = _
    rw [toList_headerOf, List.take_take]; exact hm
  · simp only [imageOf, CartridgeImage.flag6]
    split <;> simp_all
  · intro r hr
    simp only [imageOf] at hr
    split at hr
    · next h6 =>
      cases hr
      rw [show trainerLength (headerOf file hl)[6] = Config.trainerSize by rw [trainerLength, if_pos h6]] at hn
      exact ⟨length_slice (by omega), Region.wf_ofBytes _⟩
    · cases hr
  · exact length_slice (by omega)
  · exact length_slice (by omega)

end Sys2Proof.Machine
end

