-- ==== Sys2Proof/Laws/PerInstr.lean ====
section
/-! SUPPORT. Statements about every instruction as syntax, one lemma per constructor (LAWS.json).
`MatrixEntry`: the opcode matrix, looked up at an instruction's opcode byte, gives that instruction back, in the format its
operand bytes have. It ties the two directions of the opcode table together (R53). -/

namespace Sys2Proof.Laws

/-- The matrix's entry at the instruction's opcode makes this instruction from its operand bytes. -/
def MatrixEntry.Statement (i : Instr) : Prop :=
  match formOf i.opcode with
  | .f1 j => j = i ∧ i.operandBytes = []
  | .marker j => j = i ∧ i.operandBytes = []
  | .f2 mk => ∃ b, mk b = i ∧ i.operandBytes = [b]
  | .f3 mk => ∃ a, mk a = i ∧ i.operandBytes = addrBytes a

theorem matrixEntry_of_f2 {i : Instr} {op b : Byte} {mk : Byte → Instr} (ho : i.opcode = op) (hf : formOf op = .f2 mk)
    (hi : mk b = i) (hb : i.operandBytes = [b]) : MatrixEntry.Statement i := by
  subst ho
  rw [MatrixEntry.Statement, hf]
  exact ⟨b, hi, hb⟩

theorem matrixEntry_of_f3 {i : Instr} {op : Byte} {a : Addr} {mk : Addr → Instr} (ho : i.opcode = op)
    (hf : formOf op = .f3 mk) (hi : mk a = i) (hb : i.operandBytes = addrBytes a) : MatrixEntry.Statement i := by
  subst ho
  rw [MatrixEntry.Statement, hf]
  exact ⟨a, hi, hb⟩

theorem MatrixEntry.brk : MatrixEntry.Statement .brk := ⟨rfl, rfl⟩
theorem MatrixEntry.oraIndX : MatrixEntry.Statement .oraIndX := ⟨rfl, rfl⟩
theorem MatrixEntry.unoff02 : MatrixEntry.Statement .unoff02 := ⟨rfl, rfl⟩
theorem MatrixEntry.unoff03 : MatrixEntry.Statement .unoff03 := ⟨rfl, rfl⟩
theorem MatrixEntry.unoff04 : MatrixEntry.Statement .unoff04 := ⟨rfl, rfl⟩
theorem MatrixEntry.oraZp : MatrixEntry.Statement .oraZp := ⟨rfl, rfl⟩
theorem MatrixEntry.aslZp : MatrixEntry.Statement .aslZp := ⟨rfl, rfl⟩
theorem MatrixEntry.unoff07 : MatrixEntry.Statement .unoff07 := ⟨rfl, rfl⟩
theorem MatrixEntry.php : MatrixEntry.Statement .php := ⟨rfl, rfl⟩
theorem MatrixEntry.oraImm : MatrixEntry.Statement .oraImm := ⟨rfl, rfl⟩
theorem MatrixEntry.aslAcc : MatrixEntry.Statement .aslAcc := ⟨rfl, rfl⟩
theorem MatrixEntry.unoff0B : MatrixEntry.Statement .unoff0B := ⟨rfl, rfl⟩
theorem MatrixEntry.unoff0C : MatrixEntry.Statement .unoff0C := ⟨rfl, rfl⟩
theorem MatrixEntry.oraAbs : MatrixEntry.Statement .oraAbs := ⟨rfl, rfl⟩
theorem MatrixEntry.aslAbs : MatrixEntry.Statement .aslAbs := ⟨rfl, rfl⟩
theorem MatrixEntry.unoff0F : MatrixEntry.Statement .unoff0F := ⟨rfl, rfl⟩
theorem MatrixEntry.bpl (rel : Byte) : MatrixEntry.Statement (.bpl rel) :=
  matrixEntry_of_f2 (op := 0x10) rfl rfl rfl rfl
theorem MatrixEntry.oraIndY : MatrixEntry.Statement .oraIndY := ⟨rfl, rfl⟩
theorem MatrixEntry.unoff12 : MatrixEntry.Statement .unoff12 := ⟨rfl, rfl⟩
theorem MatrixEntry.unoff13 : MatrixEntry.Statement .unoff13 := ⟨rfl, rfl⟩
theorem MatrixEntry.unoff14 : MatrixEntry.Statement .unoff14 := ⟨rfl, rfl⟩
theorem MatrixEntry.oraZpX : MatrixEntry.Statement .oraZpX := ⟨rfl, rfl⟩
theorem MatrixEntry.aslZpX : MatrixEntry.Statement .aslZpX := ⟨rfl, rfl⟩
theorem MatrixEntry.unoff17 : MatrixEntry.Statement .unoff17 := ⟨rfl, rfl⟩
theorem MatrixEntry.clc : MatrixEntry.Statement .clc := ⟨rfl, rfl⟩
theorem MatrixEntry.oraAbsY : MatrixEntry.Statement .oraAbsY := ⟨rfl, rfl⟩
theorem MatrixEntry.unoff1A : MatrixEntry.Statement .unoff1A := ⟨rfl, rfl⟩
theorem MatrixEntry.unoff1B : MatrixEntry.Statement .unoff1B := ⟨rfl, rfl⟩
theorem MatrixEntry.unoff1C : MatrixEntry.Statement .unoff1C := ⟨rfl, rfl⟩
theorem MatrixEntry.oraAbsX : MatrixEntry.Statement .oraAbsX := ⟨rfl, rfl⟩
theorem MatrixEntry.aslAbsX : MatrixEntry.Statement .aslAbsX := ⟨rfl, rfl⟩
theorem MatrixEntry.unoff1F : MatrixEntry.Statement .unoff1F := ⟨rfl, rfl⟩
theorem MatrixEntry.jsr (addr : Addr) : MatrixEntry.Statement (.jsr addr) :=
  matrixEntry_of_f3 (op := 0x20) rfl rfl rfl rfl
theorem MatrixEntry.andIndX : MatrixEntry.Statement .andIndX := ⟨rfl, rfl⟩
theorem MatrixEntry.unoff22 : MatrixEntry.Statement .unoff22 := ⟨rfl, rfl⟩
theorem MatrixEntry.unoff23 : MatrixEntry.Statement .unoff23 := ⟨rfl, rfl⟩
theorem MatrixEntry.bitZp (addr : Byte) : MatrixEntry.Statement (.bitZp addr) :=
  matrixEntry_of_f2 (op := 0x24) rfl rfl rfl rfl
theorem MatrixEntry.andZp : MatrixEntry.Statement .andZp := ⟨rfl, rfl⟩
theorem MatrixEntry.rolZp : MatrixEntry.Statement .rolZp := ⟨rfl, rfl⟩
theorem MatrixEntry.unoff27 : MatrixEntry.Statement .unoff27 := ⟨rfl, rfl⟩
theorem MatrixEntry.plp : MatrixEntry.Statement .plp := ⟨rfl, rfl⟩
theorem MatrixEntry.andImm : MatrixEntry.Statement .andImm := ⟨rfl, rfl⟩
theorem MatrixEntry.rolAcc : MatrixEntry.Statement .rolAcc := ⟨rfl, rfl⟩
theorem MatrixEntry.unoff2B : MatrixEntry.Statement .unoff2B := ⟨rfl, rfl⟩
theorem MatrixEntry.bitAbs (addr : Addr) : MatrixEntry.Statement (.bitAbs addr) :=
  matrixEntry_of_f3 (op := 0x2C) rfl rfl rfl rfl
theorem MatrixEntry.andAbs : MatrixEntry.Statement .andAbs := ⟨rfl, rfl⟩
theorem MatrixEntry.rolAbs : MatrixEntry.Statement .rolAbs := ⟨rfl, rfl⟩
theorem MatrixEntry.unoff2F : MatrixEntry.Statement .unoff2F := ⟨rfl, rfl⟩
theorem MatrixEntry.bmi (rel : Byte) : MatrixEntry.Statement (.bmi rel) :=
  matrixEntry_of_f2 (op := 0x30) rfl rfl rfl rfl
theorem MatrixEntry.andIndY : MatrixEntry.Statement .andIndY := ⟨rfl, rfl⟩
theorem MatrixEntry.unoff32 : MatrixEntry.Statement .unoff32 := ⟨rfl, rfl⟩
theorem MatrixEntry.unoff33 : MatrixEntry.Statement .unoff33 := ⟨rfl, rfl⟩
theorem MatrixEntry.unoff34 : MatrixEntry.Statement .unoff34 := ⟨rfl, rfl⟩
theorem MatrixEntry.andZpX : MatrixEntry.Statement .andZpX := ⟨rfl, rfl⟩
theorem MatrixEntry.rolZpX : MatrixEntry.Statement .rolZpX := ⟨rfl, rfl⟩
theorem MatrixEntry.unoff37 : MatrixEntry.Statement .unoff37 := ⟨rfl, rfl⟩
theorem MatrixEntry.sec : MatrixEntry.Statement .sec := ⟨rfl, rfl⟩
theorem MatrixEntry.andAbsY : MatrixEntry.Statement .andAbsY := ⟨rfl, rfl⟩
theorem MatrixEntry.unoff3A : MatrixEntry.Statement .unoff3A := ⟨rfl, rfl⟩
theorem MatrixEntry.unoff3B : MatrixEntry.Statement .unoff3B := ⟨rfl, rfl⟩
theorem MatrixEntry.unoff3C : MatrixEntry.Statement .unoff3C := ⟨rfl, rfl⟩
theorem MatrixEntry.andAbsX : MatrixEntry.Statement .andAbsX := ⟨rfl, rfl⟩
theorem MatrixEntry.rolAbsX : MatrixEntry.Statement .rolAbsX := ⟨rfl, rfl⟩
theorem MatrixEntry.unoff3F : MatrixEntry.Statement .unoff3F := ⟨rfl, rfl⟩
theorem MatrixEntry.rti : MatrixEntry.Statement .rti := ⟨rfl, rfl⟩
theorem MatrixEntry.eorIndX : MatrixEntry.Statement .eorIndX := ⟨rfl, rfl⟩
theorem MatrixEntry.unoff42 : MatrixEntry.Statement .unoff42 := ⟨rfl, rfl⟩
theorem MatrixEntry.unoff43 : MatrixEntry.Statement .unoff43 := ⟨rfl, rfl⟩
theorem MatrixEntry.unoff44 : MatrixEntry.Statement .unoff44 := ⟨rfl, rfl⟩
theorem MatrixEntry.eorZp : MatrixEntry.Statement .eorZp := ⟨rfl, rfl⟩
theorem MatrixEntry.lsrZp : MatrixEntry.Statement .lsrZp := ⟨rfl, rfl⟩
theorem MatrixEntry.unoff47 : MatrixEntry.Statement .unoff47 := ⟨rfl, rfl⟩
theorem MatrixEntry.pha : MatrixEntry.Statement .pha := ⟨rfl, rfl⟩
theorem MatrixEntry.eorImm : MatrixEntry.Statement .eorImm := ⟨rfl, rfl⟩
theorem MatrixEntry.lsrAcc : MatrixEntry.Statement .lsrAcc := ⟨rfl, rfl⟩
theorem MatrixEntry.unoff4B : MatrixEntry.Statement .unoff4B := ⟨rfl, rfl⟩
theorem MatrixEntry.jmpAbs (addr : Addr) : MatrixEntry.Statement (.jmpAbs addr) :=
  matrixEntry_of_f3 (op := 0x4C) rfl rfl rfl rfl
theorem MatrixEntry.eorAbs : MatrixEntry.Statement .eorAbs := ⟨rfl, rfl⟩
theorem MatrixEntry.lsrAbs : MatrixEntry.Statement .lsrAbs := ⟨rfl, rfl⟩
theorem MatrixEntry.unoff4F : MatrixEntry.Statement .unoff4F := ⟨rfl, rfl⟩
theorem MatrixEntry.bvc (rel : Byte) : MatrixEntry.Statement (.bvc rel) :=
  matrixEntry_of_f2 (op := 0x50) rfl rfl rfl rfl
theorem MatrixEntry.eorIndY : MatrixEntry.Statement .eorIndY := ⟨rfl, rfl⟩
theorem MatrixEntry.unoff52 : MatrixEntry.Statement .unoff52 := ⟨rfl, rfl⟩
theorem MatrixEntry.unoff53 : MatrixEntry.Statement .unoff53 := ⟨rfl, rfl⟩
theorem MatrixEntry.unoff54 : MatrixEntry.Statement .unoff54 := ⟨rfl, rfl⟩
theorem MatrixEntry.eorZpX : MatrixEntry.Statement .eorZpX := ⟨rfl, rfl⟩
theorem MatrixEntry.lsrZpX : MatrixEntry.Statement .lsrZpX := ⟨rfl, rfl⟩
theorem MatrixEntry.unoff57 : MatrixEntry.Statement .unoff57 := ⟨rfl, rfl⟩
theorem MatrixEntry.cli : MatrixEntry.Statement .cli := ⟨rfl, rfl⟩
theorem MatrixEntry.eorAbsY : MatrixEntry.Statement .eorAbsY := ⟨rfl, rfl⟩
theorem MatrixEntry.unoff5A : MatrixEntry.Statement .unoff5A := ⟨rfl, rfl⟩
theorem MatrixEntry.unoff5B : MatrixEntry.Statement .unoff5B := ⟨rfl, rfl⟩
theorem MatrixEntry.unoff5C : MatrixEntry.Statement .unoff5C := ⟨rfl, rfl⟩
theorem MatrixEntry.eorAbsX : MatrixEntry.Statement .eorAbsX := ⟨rfl, rfl⟩
theorem MatrixEntry.lsrAbsX : MatrixEntry.Statement .lsrAbsX := ⟨rfl, rfl⟩
theorem MatrixEntry.unoff5F : MatrixEntry.Statement .unoff5F := ⟨rfl, rfl⟩
theorem MatrixEntry.rts : MatrixEntry.Statement .rts := ⟨rfl, rfl⟩
theorem MatrixEntry.adcIndX : MatrixEntry.Statement .adcIndX := ⟨rfl, rfl⟩
theorem MatrixEntry.unoff62 : MatrixEntry.Statement .unoff62 := ⟨rfl, rfl⟩
theorem MatrixEntry.unoff63 : MatrixEntry.Statement .unoff63 := ⟨rfl, rfl⟩
theorem MatrixEntry.unoff64 : MatrixEntry.Statement .unoff64 := ⟨rfl, rfl⟩
theorem MatrixEntry.adcZp (addr : Byte) : MatrixEntry.Statement (.adcZp addr) :=
  matrixEntry_of_f2 (op := 0x65) rfl rfl rfl rfl
theorem MatrixEntry.rorZp : MatrixEntry.Statement .rorZp := ⟨rfl, rfl⟩
theorem MatrixEntry.unoff67 : MatrixEntry.Statement .unoff67 := ⟨rfl, rfl⟩
theorem MatrixEntry.pla : MatrixEntry.Statement .pla := ⟨rfl, rfl⟩
theorem MatrixEntry.adcImm (imm : Byte) : MatrixEntry.Statement (.adcImm imm) :=
  matrixEntry_of_f2 (op := 0x69) rfl rfl rfl rfl
theorem MatrixEntry.rorAcc : MatrixEntry.Statement .rorAcc := ⟨rfl, rfl⟩
theorem MatrixEntry.unoff6B : MatrixEntry.Statement .unoff6B := ⟨rfl, rfl⟩
theorem MatrixEntry.jmpInd : MatrixEntry.Statement .jmpInd := ⟨rfl, rfl⟩
theorem MatrixEntry.adcAbs (addr : Addr) : MatrixEntry.Statement (.adcAbs addr) :=
  matrixEntry_of_f3 (op := 0x6D) rfl rfl rfl rfl
theorem MatrixEntry.rorAbs : MatrixEntry.Statement .rorAbs := ⟨rfl, rfl⟩
theorem MatrixEntry.unoff6F : MatrixEntry.Statement .unoff6F := ⟨rfl, rfl⟩
theorem MatrixEntry.bvs (rel : Byte) : MatrixEntry.Statement (.bvs rel) :=
  matrixEntry_of_f2 (op := 0x70) rfl rfl rfl rfl
theorem MatrixEntry.adcIndY : MatrixEntry.Statement .adcIndY := ⟨rfl, rfl⟩
theorem MatrixEntry.unoff72 : MatrixEntry.Statement .unoff72 := ⟨rfl, rfl⟩
theorem MatrixEntry.unoff73 : MatrixEntry.Statement .unoff73 := ⟨rfl, rfl⟩
theorem MatrixEntry.unoff74 : MatrixEntry.Statement .unoff74 := ⟨rfl, rfl⟩
theorem MatrixEntry.adcZpX : MatrixEntry.Statement .adcZpX := ⟨rfl, rfl⟩
theorem MatrixEntry.rorZpX : MatrixEntry.Statement .rorZpX := ⟨rfl, rfl⟩
theorem MatrixEntry.unoff77 : MatrixEntry.Statement .unoff77 := ⟨rfl, rfl⟩
theorem MatrixEntry.sei : MatrixEntry.Statement .sei := ⟨rfl, rfl⟩
theorem MatrixEntry.adcAbsY : MatrixEntry.Statement .adcAbsY := ⟨rfl, rfl⟩
theorem MatrixEntry.unoff7A : MatrixEntry.Statement .unoff7A := ⟨rfl, rfl⟩
theorem MatrixEntry.unoff7B : MatrixEntry.Statement .unoff7B := ⟨rfl, rfl⟩
theorem MatrixEntry.unoff7C : MatrixEntry.Statement .unoff7C := ⟨rfl, rfl⟩
theorem MatrixEntry.adcAbsX : MatrixEntry.Statement .adcAbsX := ⟨rfl, rfl⟩
theorem MatrixEntry.rorAbsX : MatrixEntry.Statement .rorAbsX := ⟨rfl, rfl⟩
theorem MatrixEntry.unoff7F : MatrixEntry.Statement .unoff7F := ⟨rfl, rfl⟩
theorem MatrixEntry.unoff80 : MatrixEntry.Statement .unoff80 := ⟨rfl, rfl⟩
theorem MatrixEntry.staIndX : MatrixEntry.Statement .staIndX := ⟨rfl, rfl⟩
theorem MatrixEntry.unoff82 : MatrixEntry.Statement .unoff82 := ⟨rfl, rfl⟩
theorem MatrixEntry.unoff83 : MatrixEntry.Statement .unoff83 := ⟨rfl, rfl⟩
theorem MatrixEntry.styZp (addr : Byte) : MatrixEntry.Statement (.styZp addr) :=
  matrixEntry_of_f2 (op := 0x84) rfl rfl rfl rfl
theorem MatrixEntry.staZp (addr : Byte) : MatrixEntry.Statement (.staZp addr) :=
  matrixEntry_of_f2 (op := 0x85) rfl rfl rfl rfl
theorem MatrixEntry.stxZp (addr : Byte) : MatrixEntry.Statement (.stxZp addr) :=
  matrixEntry_of_f2 (op := 0x86) rfl rfl rfl rfl
theorem MatrixEntry.unoff87 : MatrixEntry.Statement .unoff87 := ⟨rfl, rfl⟩
theorem MatrixEntry.dey : MatrixEntry.Statement .dey := ⟨rfl, rfl⟩
theorem MatrixEntry.unoff89 : MatrixEntry.Statement .unoff89 := ⟨rfl, rfl⟩
theorem MatrixEntry.txa : MatrixEntry.Statement .txa := ⟨rfl, rfl⟩
theorem MatrixEntry.unoff8B : MatrixEntry.Statement .unoff8B := ⟨rfl, rfl⟩
theorem MatrixEntry.styAbs (addr : Addr) : MatrixEntry.Statement (.styAbs addr) :=
  matrixEntry_of_f3 (op := 0x8C) rfl rfl rfl rfl
theorem MatrixEntry.staAbs (addr : Addr) : MatrixEntry.Statement (.staAbs addr) :=
  matrixEntry_of_f3 (op := 0x8D) rfl rfl rfl rfl
theorem MatrixEntry.stxAbs (addr : Addr) : MatrixEntry.Statement (.stxAbs addr) :=
  matrixEntry_of_f3 (op := 0x8E) rfl rfl rfl rfl
theorem MatrixEntry.unoff8F : MatrixEntry.Statement .unoff8F := ⟨rfl, rfl⟩
theorem MatrixEntry.bcc (rel : Byte) : MatrixEntry.Statement (.bcc rel) :=
  matrixEntry_of_f2 (op := 0x90) rfl rfl rfl rfl
theorem MatrixEntry.staIndY : MatrixEntry.Statement .staIndY := ⟨rfl, rfl⟩
theorem MatrixEntry.unoff92 : MatrixEntry.Statement .unoff92 := ⟨rfl, rfl⟩
theorem MatrixEntry.unoff93 : MatrixEntry.Statement .unoff93 := ⟨rfl, rfl⟩
theorem MatrixEntry.styZpX : MatrixEntry.Statement .styZpX := ⟨rfl, rfl⟩
theorem MatrixEntry.staZpX : MatrixEntry.Statement .staZpX := ⟨rfl, rfl⟩
theorem MatrixEntry.stxZpY : MatrixEntry.Statement .stxZpY := ⟨rfl, rfl⟩
theorem MatrixEntry.unoff97 : MatrixEntry.Statement .unoff97 := ⟨rfl, rfl⟩
theorem MatrixEntry.tya : MatrixEntry.Statement .tya := ⟨rfl, rfl⟩
theorem MatrixEntry.staAbsY : MatrixEntry.Statement .staAbsY := ⟨rfl, rfl⟩
theorem MatrixEntry.txs : MatrixEntry.Statement .txs := ⟨rfl, rfl⟩
theorem MatrixEntry.unoff9B : MatrixEntry.Statement .unoff9B := ⟨rfl, rfl⟩
theorem MatrixEntry.unoff9C : MatrixEntry.Statement .unoff9C := ⟨rfl, rfl⟩
theorem MatrixEntry.staAbsX : MatrixEntry.Statement .staAbsX := ⟨rfl, rfl⟩
theorem MatrixEntry.unoff9E : MatrixEntry.Statement .unoff9E := ⟨rfl, rfl⟩
theorem MatrixEntry.unoff9F : MatrixEntry.Statement .unoff9F := ⟨rfl, rfl⟩
theorem MatrixEntry.ldyImm (imm : Byte) : MatrixEntry.Statement (.ldyImm imm) :=
  matrixEntry_of_f2 (op := 0xA0) rfl rfl rfl rfl
theorem MatrixEntry.ldaIndX : MatrixEntry.Statement .ldaIndX := ⟨rfl, rfl⟩
theorem MatrixEntry.ldxImm (imm : Byte) : MatrixEntry.Statement (.ldxImm imm) :=
  matrixEntry_of_f2 (op := 0xA2) rfl rfl rfl rfl
theorem MatrixEntry.unoffA3 : MatrixEntry.Statement .unoffA3 := ⟨rfl, rfl⟩
theorem MatrixEntry.ldyZp (addr : Byte) : MatrixEntry.Statement (.ldyZp addr) :=
  matrixEntry_of_f2 (op := 0xA4) rfl rfl rfl rfl
theorem MatrixEntry.ldaZp (addr : Byte) : MatrixEntry.Statement (.ldaZp addr) :=
  matrixEntry_of_f2 (op := 0xA5) rfl rfl rfl rfl
theorem MatrixEntry.ldxZp (addr : Byte) : MatrixEntry.Statement (.ldxZp addr) :=
  matrixEntry_of_f2 (op := 0xA6) rfl rfl rfl rfl
theorem MatrixEntry.unoffA7 : MatrixEntry.Statement .unoffA7 := ⟨rfl, rfl⟩
theorem MatrixEntry.tay : MatrixEntry.Statement .tay := ⟨rfl, rfl⟩
theorem MatrixEntry.ldaImm (imm : Byte) : MatrixEntry.Statement (.ldaImm imm) :=
  matrixEntry_of_f2 (op := 0xA9) rfl rfl rfl rfl
theorem MatrixEntry.tax : MatrixEntry.Statement .tax := ⟨rfl, rfl⟩
theorem MatrixEntry.unoffAB : MatrixEntry.Statement .unoffAB := ⟨rfl, rfl⟩
theorem MatrixEntry.ldyAbs (addr : Addr) : MatrixEntry.Statement (.ldyAbs addr) :=
  matrixEntry_of_f3 (op := 0xAC) rfl rfl rfl rfl
theorem MatrixEntry.ldaAbs (addr : Addr) : MatrixEntry.Statement (.ldaAbs addr) :=
  matrixEntry_of_f3 (op := 0xAD) rfl rfl rfl rfl
theorem MatrixEntry.ldxAbs (addr : Addr) : MatrixEntry.Statement (.ldxAbs addr) :=
  matrixEntry_of_f3 (op := 0xAE) rfl rfl rfl rfl
theorem MatrixEntry.unoffAF : MatrixEntry.Statement .unoffAF := ⟨rfl, rfl⟩
theorem MatrixEntry.bcs (rel : Byte) : MatrixEntry.Statement (.bcs rel) :=
  matrixEntry_of_f2 (op := 0xB0) rfl rfl rfl rfl
theorem MatrixEntry.ldaIndY : MatrixEntry.Statement .ldaIndY := ⟨rfl, rfl⟩
theorem MatrixEntry.unoffB2 : MatrixEntry.Statement .unoffB2 := ⟨rfl, rfl⟩
theorem MatrixEntry.unoffB3 : MatrixEntry.Statement .unoffB3 := ⟨rfl, rfl⟩
theorem MatrixEntry.ldyZpX : MatrixEntry.Statement .ldyZpX := ⟨rfl, rfl⟩
theorem MatrixEntry.ldaZpX : MatrixEntry.Statement .ldaZpX := ⟨rfl, rfl⟩
theorem MatrixEntry.ldxZpY : MatrixEntry.Statement .ldxZpY := ⟨rfl, rfl⟩
theorem MatrixEntry.unoffB7 : MatrixEntry.Statement .unoffB7 := ⟨rfl, rfl⟩
theorem MatrixEntry.clv : MatrixEntry.Statement .clv := ⟨rfl, rfl⟩
theorem MatrixEntry.ldaAbsY : MatrixEntry.Statement .ldaAbsY := ⟨rfl, rfl⟩
theorem MatrixEntry.tsx : MatrixEntry.Statement .tsx := ⟨rfl, rfl⟩
theorem MatrixEntry.unoffBB : MatrixEntry.Statement .unoffBB := ⟨rfl, rfl⟩
theorem MatrixEntry.ldyAbsX : MatrixEntry.Statement .ldyAbsX := ⟨rfl, rfl⟩
theorem MatrixEntry.ldaAbsX : MatrixEntry.Statement .ldaAbsX := ⟨rfl, rfl⟩
theorem MatrixEntry.ldxAbsY : MatrixEntry.Statement .ldxAbsY := ⟨rfl, rfl⟩
theorem MatrixEntry.unoffBF : MatrixEntry.Statement .unoffBF := ⟨rfl, rfl⟩
theorem MatrixEntry.cpyImm (imm : Byte) : MatrixEntry.Statement (.cpyImm imm) :=
  matrixEntry_of_f2 (op := 0xC0) rfl rfl rfl rfl
theorem MatrixEntry.cmpIndX : MatrixEntry.Statement .cmpIndX := ⟨rfl, rfl⟩
theorem MatrixEntry.unoffC2 : MatrixEntry.Statement .unoffC2 := ⟨rfl, rfl⟩
theorem MatrixEntry.unoffC3 : MatrixEntry.Statement .unoffC3 := ⟨rfl, rfl⟩
theorem MatrixEntry.cpyZp (addr : Byte) : MatrixEntry.Statement (.cpyZp addr) :=
  matrixEntry_of_f2 (op := 0xC4) rfl rfl rfl rfl
theorem MatrixEntry.cmpZp (addr : Byte) : MatrixEntry.Statement (.cmpZp addr) :=
  matrixEntry_of_f2 (op := 0xC5) rfl rfl rfl rfl
theorem MatrixEntry.decZp : MatrixEntry.Statement .decZp := ⟨rfl, rfl⟩
theorem MatrixEntry.unoffC7 : MatrixEntry.Statement .unoffC7 := ⟨rfl, rfl⟩
theorem MatrixEntry.iny : MatrixEntry.Statement .iny := ⟨rfl, rfl⟩
theorem MatrixEntry.cmpImm (imm : Byte) : MatrixEntry.Statement (.cmpImm imm) :=
  matrixEntry_of_f2 (op := 0xC9) rfl rfl rfl rfl
theorem MatrixEntry.dex : MatrixEntry.Statement .dex := ⟨rfl, rfl⟩
theorem MatrixEntry.unoffCB : MatrixEntry.Statement .unoffCB := ⟨rfl, rfl⟩
theorem MatrixEntry.cpyAbs (addr : Addr) : MatrixEntry.Statement (.cpyAbs addr) :=
  matrixEntry_of_f3 (op := 0xCC) rfl rfl rfl rfl
theorem MatrixEntry.cmpAbs (addr : Addr) : MatrixEntry.Statement (.cmpAbs addr) :=
  matrixEntry_of_f3 (op := 0xCD) rfl rfl rfl rfl
theorem MatrixEntry.decAbs : MatrixEntry.Statement .decAbs := ⟨rfl, rfl⟩
theorem MatrixEntry.unoffCF : MatrixEntry.Statement .unoffCF := ⟨rfl, rfl⟩
theorem MatrixEntry.bne (rel : Byte) : MatrixEntry.Statement (.bne rel) :=
  matrixEntry_of_f2 (op := 0xD0) rfl rfl rfl rfl
theorem MatrixEntry.cmpIndY : MatrixEntry.Statement .cmpIndY := ⟨rfl, rfl⟩
theorem MatrixEntry.unoffD2 : MatrixEntry.Statement .unoffD2 := ⟨rfl, rfl⟩
theorem MatrixEntry.unoffD3 : MatrixEntry.Statement .unoffD3 := ⟨rfl, rfl⟩
theorem MatrixEntry.unoffD4 : MatrixEntry.Statement .unoffD4 := ⟨rfl, rfl⟩
theorem MatrixEntry.cmpZpX : MatrixEntry.Statement .cmpZpX := ⟨rfl, rfl⟩
theorem MatrixEntry.decZpX : MatrixEntry.Statement .decZpX := ⟨rfl, rfl⟩
theorem MatrixEntry.unoffD7 : MatrixEntry.Statement .unoffD7 := ⟨rfl, rfl⟩
theorem MatrixEntry.cld : MatrixEntry.Statement .cld := ⟨rfl, rfl⟩
theorem MatrixEntry.cmpAbsY : MatrixEntry.Statement .cmpAbsY := ⟨rfl, rfl⟩
theorem MatrixEntry.unoffDA : MatrixEntry.Statement .unoffDA := ⟨rfl, rfl⟩
theorem MatrixEntry.unoffDB : MatrixEntry.Statement .unoffDB := ⟨rfl, rfl⟩
theorem MatrixEntry.unoffDC : MatrixEntry.Statement .unoffDC := ⟨rfl, rfl⟩
theorem MatrixEntry.cmpAbsX : MatrixEntry.Statement .cmpAbsX := ⟨rfl, rfl⟩
theorem MatrixEntry.decAbsX : MatrixEntry.Statement .decAbsX := ⟨rfl, rfl⟩
theorem MatrixEntry.unoffDF : MatrixEntry.Statement .unoffDF := ⟨rfl, rfl⟩
theorem MatrixEntry.cpxImm (imm : Byte) : MatrixEntry.Statement (.cpxImm imm) :=
  matrixEntry_of_f2 (op := 0xE0) rfl rfl rfl rfl
theorem MatrixEntry.sbcIndX : MatrixEntry.Statement .sbcIndX := ⟨rfl, rfl⟩
theorem MatrixEntry.unoffE2 : MatrixEntry.Statement .unoffE2 := ⟨rfl, rfl⟩
theorem MatrixEntry.unoffE3 : MatrixEntry.Statement .unoffE3 := ⟨rfl, rfl⟩
theorem MatrixEntry.cpxZp (addr : Byte) : MatrixEntry.Statement (.cpxZp addr) :=
  matrixEntry_of_f2 (op := 0xE4) rfl rfl rfl rfl
theorem MatrixEntry.sbcZp : MatrixEntry.Statement .sbcZp := ⟨rfl, rfl⟩
theorem MatrixEntry.incZp : MatrixEntry.Statement .incZp := ⟨rfl, rfl⟩
theorem MatrixEntry.unoffE7 : MatrixEntry.Statement .unoffE7 := ⟨rfl, rfl⟩
theorem MatrixEntry.inx : MatrixEntry.Statement .inx := ⟨rfl, rfl⟩
theorem MatrixEntry.sbcImm : MatrixEntry.Statement .sbcImm := ⟨rfl, rfl⟩
theorem MatrixEntry.nop : MatrixEntry.Statement .nop := ⟨rfl, rfl⟩
theorem MatrixEntry.unoffEB : MatrixEntry.Statement .unoffEB := ⟨rfl, rfl⟩
theorem MatrixEntry.cpxAbs (addr : Addr) : MatrixEntry.Statement (.cpxAbs addr) :=
  matrixEntry_of_f3 (op := 0xEC) rfl rfl rfl rfl
theorem MatrixEntry.sbcAbs : MatrixEntry.Statement .sbcAbs := ⟨rfl, rfl⟩
theorem MatrixEntry.incAbs : MatrixEntry.Statement .incAbs := ⟨rfl, rfl⟩
theorem MatrixEntry.unoffEF : MatrixEntry.Statement .unoffEF := ⟨rfl, rfl⟩
theorem MatrixEntry.beq (rel : Byte) : MatrixEntry.Statement (.beq rel) :=
  matrixEntry_of_f2 (op := 0xF0) rfl rfl rfl rfl
theorem MatrixEntry.sbcIndY : MatrixEntry.Statement .sbcIndY := ⟨rfl, rfl⟩
theorem MatrixEntry.unoffF2 : MatrixEntry.Statement .unoffF2 := ⟨rfl, rfl⟩
theorem MatrixEntry.unoffF3 : MatrixEntry.Statement .unoffF3 := ⟨rfl, rfl⟩
theorem MatrixEntry.unoffF4 : MatrixEntry.Statement .unoffF4 := ⟨rfl, rfl⟩
theorem MatrixEntry.sbcZpX : MatrixEntry.Statement .sbcZpX := ⟨rfl, rfl⟩
theorem MatrixEntry.incZpX : MatrixEntry.Statement .incZpX := ⟨rfl, rfl⟩
theorem MatrixEntry.unoffF7 : MatrixEntry.Statement .unoffF7 := ⟨rfl, rfl⟩
theorem MatrixEntry.sed : MatrixEntry.Statement .sed := ⟨rfl, rfl⟩
theorem MatrixEntry.sbcAbsY : MatrixEntry.Statement .sbcAbsY := ⟨rfl, rfl⟩
theorem MatrixEntry.unoffFA : MatrixEntry.Statement .unoffFA := ⟨rfl, rfl⟩
theorem MatrixEntry.unoffFB : MatrixEntry.Statement .unoffFB := ⟨rfl, rfl⟩
theorem MatrixEntry.unoffFC : MatrixEntry.Statement .unoffFC := ⟨rfl, rfl⟩
theorem MatrixEntry.sbcAbsX : MatrixEntry.Statement .sbcAbsX := ⟨rfl, rfl⟩
theorem MatrixEntry.incAbsX : MatrixEntry.Statement .incAbsX := ⟨rfl, rfl⟩
theorem MatrixEntry.unoffFF : MatrixEntry.Statement .unoffFF := ⟨rfl, rfl⟩

end Sys2Proof.Laws
end

