-- ==== Sys2Proof/Laws/Decode.lean ====
section
/-! SUPPORT. Bytes of a word, and what decoding gives for each format (R32, R50, R52). -/

namespace Sys2Proof

@[simp] theorem wordOf_lo_hi (a : Addr) : wordOf (loByte a) (hiByte a) = a := by
  simp only [wordOf, loByte, hiByte]
  ext k hk
  simp only [BitVec.getElem_append, BitVec.getElem_extractLsb']
  by_cases h : k < 8
  · simp [h, BitVec.getLsbD_eq_getElem hk]
  · simp [h, show 8 + (k - 8) = k by omega, BitVec.getLsbD_eq_getElem hk]

@[simp] theorem loByte_wordOf (lo hi : Byte) : loByte (wordOf lo hi) = lo := by
  simp only [wordOf, loByte]
  ext k hk
  rw [BitVec.getElem_extractLsb', BitVec.getLsbD_append]
  simp [hk]

@[simp] theorem hiByte_wordOf (lo hi : Byte) : hiByte (wordOf lo hi) = hi := by
  simp only [wordOf, hiByte]
  ext k hk
  rw [BitVec.getElem_extractLsb', BitVec.getLsbD_append]
  simp [BitVec.getLsbD_eq_getElem hk]

/-- `{hi, lo}` as a number (R6, R43). -/
theorem toNat_wordOf (lo hi : Byte) : (wordOf lo hi).toNat = lo.toNat + 256 * hi.toNat := by
  have := lo.isLt
  rw [wordOf, BitVec.toNat_append, ← Nat.shiftLeft_add_eq_or_of_lt this, Nat.shiftLeft_eq]
  omega

/-- The number two operand bytes make is the 16-bit operand (R52). -/
theorem ofNat_leBytes (lo hi : Byte) : BitVec.ofNat 16 (lo.toNat + 256 * hi.toNat) = wordOf lo hi := by
  rw [← toNat_wordOf, BitVec.ofNat_toNat, BitVec.setWidth_eq]

/-- The matrix entry of every instruction, from the lemmas per constructor. -/
theorem matrixEntry (i : Instr) : Laws.MatrixEntry.Statement i := by
  cases i
  case brk => exact Laws.MatrixEntry.brk
  case oraIndX => exact Laws.MatrixEntry.oraIndX
  case unoff02 => exact Laws.MatrixEntry.unoff02
  case unoff03 => exact Laws.MatrixEntry.unoff03
  case unoff04 => exact Laws.MatrixEntry.unoff04
  case oraZp => exact Laws.MatrixEntry.oraZp
  case aslZp => exact Laws.MatrixEntry.aslZp
  case unoff07 => exact Laws.MatrixEntry.unoff07
  case php => exact Laws.MatrixEntry.php
  case oraImm => exact Laws.MatrixEntry.oraImm
  case aslAcc => exact Laws.MatrixEntry.aslAcc
  case unoff0B => exact Laws.MatrixEntry.unoff0B
  case unoff0C => exact Laws.MatrixEntry.unoff0C
  case oraAbs => exact Laws.MatrixEntry.oraAbs
  case aslAbs => exact Laws.MatrixEntry.aslAbs
  case unoff0F => exact Laws.MatrixEntry.unoff0F
  case bpl rel => exact Laws.MatrixEntry.bpl rel
  case oraIndY => exact Laws.MatrixEntry.oraIndY
  case unoff12 => exact Laws.MatrixEntry.unoff12
  case unoff13 => exact Laws.MatrixEntry.unoff13
  case unoff14 => exact Laws.MatrixEntry.unoff14
  case oraZpX => exact Laws.MatrixEntry.oraZpX
  case aslZpX => exact Laws.MatrixEntry.aslZpX
  case unoff17 => exact Laws.MatrixEntry.unoff17
  case clc => exact Laws.MatrixEntry.clc
  case oraAbsY => exact Laws.MatrixEntry.oraAbsY
  case unoff1A => exact Laws.MatrixEntry.unoff1A
  case unoff1B => exact Laws.MatrixEntry.unoff1B
  case unoff1C => exact Laws.MatrixEntry.unoff1C
  case oraAbsX => exact Laws.MatrixEntry.oraAbsX
  case aslAbsX => exact Laws.MatrixEntry.aslAbsX
  case unoff1F => exact Laws.MatrixEntry.unoff1F
  case jsr addr => exact Laws.MatrixEntry.jsr addr
  case andIndX => exact Laws.MatrixEntry.andIndX
  case unoff22 => exact Laws.MatrixEntry.unoff22
  case unoff23 => exact Laws.MatrixEntry.unoff23
  case bitZp addr => exact Laws.MatrixEntry.bitZp addr
  case andZp => exact Laws.MatrixEntry.andZp
  case rolZp => exact Laws.MatrixEntry.rolZp
  case unoff27 => exact Laws.MatrixEntry.unoff27
  case plp => exact Laws.MatrixEntry.plp
  case andImm => exact Laws.MatrixEntry.andImm
  case rolAcc => exact Laws.MatrixEntry.rolAcc
  case unoff2B => exact Laws.MatrixEntry.unoff2B
  case bitAbs addr => exact Laws.MatrixEntry.bitAbs addr
  case andAbs => exact Laws.MatrixEntry.andAbs
  case rolAbs => exact Laws.MatrixEntry.rolAbs
  case unoff2F => exact Laws.MatrixEntry.unoff2F
  case bmi rel => exact Laws.MatrixEntry.bmi rel
  case andIndY => exact Laws.MatrixEntry.andIndY
  case unoff32 => exact Laws.MatrixEntry.unoff32
  case unoff33 => exact Laws.MatrixEntry.unoff33
  case unoff34 => exact Laws.MatrixEntry.unoff34
  case andZpX => exact Laws.MatrixEntry.andZpX
  case rolZpX => exact Laws.MatrixEntry.rolZpX
  case unoff37 => exact Laws.MatrixEntry.unoff37
  case sec => exact Laws.MatrixEntry.sec
  case andAbsY => exact Laws.MatrixEntry.andAbsY
  case unoff3A => exact Laws.MatrixEntry.unoff3A
  case unoff3B => exact Laws.MatrixEntry.unoff3B
  case unoff3C => exact Laws.MatrixEntry.unoff3C
  case andAbsX => exact Laws.MatrixEntry.andAbsX
  case rolAbsX => exact Laws.MatrixEntry.rolAbsX
  case unoff3F => exact Laws.MatrixEntry.unoff3F
  case rti => exact Laws.MatrixEntry.rti
  case eorIndX => exact Laws.MatrixEntry.eorIndX
  case unoff42 => exact Laws.MatrixEntry.unoff42
  case unoff43 => exact Laws.MatrixEntry.unoff43
  case unoff44 => exact Laws.MatrixEntry.unoff44
  case eorZp => exact Laws.MatrixEntry.eorZp
  case lsrZp => exact Laws.MatrixEntry.lsrZp
  case unoff47 => exact Laws.MatrixEntry.unoff47
  case pha => exact Laws.MatrixEntry.pha
  case eorImm => exact Laws.MatrixEntry.eorImm
  case lsrAcc => exact Laws.MatrixEntry.lsrAcc
  case unoff4B => exact Laws.MatrixEntry.unoff4B
  case jmpAbs addr => exact Laws.MatrixEntry.jmpAbs addr
  case eorAbs => exact Laws.MatrixEntry.eorAbs
  case lsrAbs => exact Laws.MatrixEntry.lsrAbs
  case unoff4F => exact Laws.MatrixEntry.unoff4F
  case bvc rel => exact Laws.MatrixEntry.bvc rel
  case eorIndY => exact Laws.MatrixEntry.eorIndY
  case unoff52 => exact Laws.MatrixEntry.unoff52
  case unoff53 => exact Laws.MatrixEntry.unoff53
  case unoff54 => exact Laws.MatrixEntry.unoff54
  case eorZpX => exact Laws.MatrixEntry.eorZpX
  case lsrZpX => exact Laws.MatrixEntry.lsrZpX
  case unoff57 => exact Laws.MatrixEntry.unoff57
  case cli => exact Laws.MatrixEntry.cli
  case eorAbsY => exact Laws.MatrixEntry.eorAbsY
  case unoff5A => exact Laws.MatrixEntry.unoff5A
  case unoff5B => exact Laws.MatrixEntry.unoff5B
  case unoff5C => exact Laws.MatrixEntry.unoff5C
  case eorAbsX => exact Laws.MatrixEntry.eorAbsX
  case lsrAbsX => exact Laws.MatrixEntry.lsrAbsX
  case unoff5F => exact Laws.MatrixEntry.unoff5F
  case rts => exact Laws.MatrixEntry.rts
  case adcIndX => exact Laws.MatrixEntry.adcIndX
  case unoff62 => exact Laws.MatrixEntry.unoff62
  case unoff63 => exact Laws.MatrixEntry.unoff63
  case unoff64 => exact Laws.MatrixEntry.unoff64
  case adcZp addr => exact Laws.MatrixEntry.adcZp addr
  case rorZp => exact Laws.MatrixEntry.rorZp
  case unoff67 => exact Laws.MatrixEntry.unoff67
  case pla => exact Laws.MatrixEntry.pla
  case adcImm imm => exact Laws.MatrixEntry.adcImm imm
  case rorAcc => exact Laws.MatrixEntry.rorAcc
  case unoff6B => exact Laws.MatrixEntry.unoff6B
  case jmpInd => exact Laws.MatrixEntry.jmpInd
  case adcAbs addr => exact Laws.MatrixEntry.adcAbs addr
  case rorAbs => exact Laws.MatrixEntry.rorAbs
  case unoff6F => exact Laws.MatrixEntry.unoff6F
  case bvs rel => exact Laws.MatrixEntry.bvs rel
  case adcIndY => exact Laws.MatrixEntry.adcIndY
  case unoff72 => exact Laws.MatrixEntry.unoff72
  case unoff73 => exact Laws.MatrixEntry.unoff73
  case unoff74 => exact Laws.MatrixEntry.unoff74
  case adcZpX => exact Laws.MatrixEntry.adcZpX
  case rorZpX => exact Laws.MatrixEntry.rorZpX
  case unoff77 => exact Laws.MatrixEntry.unoff77
  case sei => exact Laws.MatrixEntry.sei
  case adcAbsY => exact Laws.MatrixEntry.adcAbsY
  case unoff7A => exact Laws.MatrixEntry.unoff7A
  case unoff7B => exact Laws.MatrixEntry.unoff7B
  case unoff7C => exact Laws.MatrixEntry.unoff7C
  case adcAbsX => exact Laws.MatrixEntry.adcAbsX
  case rorAbsX => exact Laws.MatrixEntry.rorAbsX
  case unoff7F => exact Laws.MatrixEntry.unoff7F
  case unoff80 => exact Laws.MatrixEntry.unoff80
  case staIndX => exact Laws.MatrixEntry.staIndX
  case unoff82 => exact Laws.MatrixEntry.unoff82
  case unoff83 => exact Laws.MatrixEntry.unoff83
  case styZp addr => exact Laws.MatrixEntry.styZp addr
  case staZp addr => exact Laws.MatrixEntry.staZp addr
  case stxZp addr => exact Laws.MatrixEntry.stxZp addr
  case unoff87 => exact Laws.MatrixEntry.unoff87
  case dey => exact Laws.MatrixEntry.dey
  case unoff89 => exact Laws.MatrixEntry.unoff89
  case txa => exact Laws.MatrixEntry.txa
  case unoff8B => exact Laws.MatrixEntry.unoff8B
  case styAbs addr => exact Laws.MatrixEntry.styAbs addr
  case staAbs addr => exact Laws.MatrixEntry.staAbs addr
  case stxAbs addr => exact Laws.MatrixEntry.stxAbs addr
  case unoff8F => exact Laws.MatrixEntry.unoff8F
  case bcc rel => exact Laws.MatrixEntry.bcc rel
  case staIndY => exact Laws.MatrixEntry.staIndY
  case unoff92 => exact Laws.MatrixEntry.unoff92
  case unoff93 => exact Laws.MatrixEntry.unoff93
  case styZpX => exact Laws.MatrixEntry.styZpX
  case staZpX => exact Laws.MatrixEntry.staZpX
  case stxZpY => exact Laws.MatrixEntry.stxZpY
  case unoff97 => exact Laws.MatrixEntry.unoff97
  case tya => exact Laws.MatrixEntry.tya
  case staAbsY => exact Laws.MatrixEntry.staAbsY
  case txs => exact Laws.MatrixEntry.txs
  case unoff9B => exact Laws.MatrixEntry.unoff9B
  case unoff9C => exact Laws.MatrixEntry.unoff9C
  case staAbsX => exact Laws.MatrixEntry.staAbsX
  case unoff9E => exact Laws.MatrixEntry.unoff9E
  case unoff9F => exact Laws.MatrixEntry.unoff9F
  case ldyImm imm => exact Laws.MatrixEntry.ldyImm imm
  case ldaIndX => exact Laws.MatrixEntry.ldaIndX
  case ldxImm imm => exact Laws.MatrixEntry.ldxImm imm
  case unoffA3 => exact Laws.MatrixEntry.unoffA3
  case ldyZp addr => exact Laws.MatrixEntry.ldyZp addr
  case ldaZp addr => exact Laws.MatrixEntry.ldaZp addr
  case ldxZp addr => exact Laws.MatrixEntry.ldxZp addr
  case unoffA7 => exact Laws.MatrixEntry.unoffA7
  case tay => exact Laws.MatrixEntry.tay
  case ldaImm imm => exact Laws.MatrixEntry.ldaImm imm
  case tax => exact Laws.MatrixEntry.tax
  case unoffAB => exact Laws.MatrixEntry.unoffAB
  case ldyAbs addr => exact Laws.MatrixEntry.ldyAbs addr
  case ldaAbs addr => exact Laws.MatrixEntry.ldaAbs addr
  case ldxAbs addr => exact Laws.MatrixEntry.ldxAbs addr
  case unoffAF => exact Laws.MatrixEntry.unoffAF
  case bcs rel => exact Laws.MatrixEntry.bcs rel
  case ldaIndY => exact Laws.MatrixEntry.ldaIndY
  case unoffB2 => exact Laws.MatrixEntry.unoffB2
  case unoffB3 => exact Laws.MatrixEntry.unoffB3
  case ldyZpX => exact Laws.MatrixEntry.ldyZpX
  case ldaZpX => exact Laws.MatrixEntry.ldaZpX
  case ldxZpY => exact Laws.MatrixEntry.ldxZpY
  case unoffB7 => exact Laws.MatrixEntry.unoffB7
  case clv => exact Laws.MatrixEntry.clv
  case ldaAbsY => exact Laws.MatrixEntry.ldaAbsY
  case tsx => exact Laws.MatrixEntry.tsx
  case unoffBB => exact Laws.MatrixEntry.unoffBB
  case ldyAbsX => exact Laws.MatrixEntry.ldyAbsX
  case ldaAbsX => exact Laws.MatrixEntry.ldaAbsX
  case ldxAbsY => exact Laws.MatrixEntry.ldxAbsY
  case unoffBF => exact Laws.MatrixEntry.unoffBF
  case cpyImm imm => exact Laws.MatrixEntry.cpyImm imm
  case cmpIndX => exact Laws.MatrixEntry.cmpIndX
  case unoffC2 => exact Laws.MatrixEntry.unoffC2
  case unoffC3 => exact Laws.MatrixEntry.unoffC3
  case cpyZp addr => exact Laws.MatrixEntry.cpyZp addr
  case cmpZp addr => exact Laws.MatrixEntry.cmpZp addr
  case decZp => exact Laws.MatrixEntry.decZp
  case unoffC7 => exact Laws.MatrixEntry.unoffC7
  case iny => exact Laws.MatrixEntry.iny
  case cmpImm imm => exact Laws.MatrixEntry.cmpImm imm
  case dex => exact Laws.MatrixEntry.dex
  case unoffCB => exact Laws.MatrixEntry.unoffCB
  case cpyAbs addr => exact Laws.MatrixEntry.cpyAbs addr
  case cmpAbs addr => exact Laws.MatrixEntry.cmpAbs addr
  case decAbs => exact Laws.MatrixEntry.decAbs
  case unoffCF => exact Laws.MatrixEntry.unoffCF
  case bne rel => exact Laws.MatrixEntry.bne rel
  case cmpIndY => exact Laws.MatrixEntry.cmpIndY
  case unoffD2 => exact Laws.MatrixEntry.unoffD2
  case unoffD3 => exact Laws.MatrixEntry.unoffD3
  case unoffD4 => exact Laws.MatrixEntry.unoffD4
  case cmpZpX => exact Laws.MatrixEntry.cmpZpX
  case decZpX => exact Laws.MatrixEntry.decZpX
  case unoffD7 => exact Laws.MatrixEntry.unoffD7
  case cld => exact Laws.MatrixEntry.cld
  case cmpAbsY => exact Laws.MatrixEntry.cmpAbsY
  case unoffDA => exact Laws.MatrixEntry.unoffDA
  case unoffDB => exact Laws.MatrixEntry.unoffDB
  case unoffDC => exact Laws.MatrixEntry.unoffDC
  case cmpAbsX => exact Laws.MatrixEntry.cmpAbsX
  case decAbsX => exact Laws.MatrixEntry.decAbsX
  case unoffDF => exact Laws.MatrixEntry.unoffDF
  case cpxImm imm => exact Laws.MatrixEntry.cpxImm imm
  case sbcIndX => exact Laws.MatrixEntry.sbcIndX
  case unoffE2 => exact Laws.MatrixEntry.unoffE2
  case unoffE3 => exact Laws.MatrixEntry.unoffE3
  case cpxZp addr => exact Laws.MatrixEntry.cpxZp addr
  case sbcZp => exact Laws.MatrixEntry.sbcZp
  case incZp => exact Laws.MatrixEntry.incZp
  case unoffE7 => exact Laws.MatrixEntry.unoffE7
  case inx => exact Laws.MatrixEntry.inx
  case sbcImm => exact Laws.MatrixEntry.sbcImm
  case nop => exact Laws.MatrixEntry.nop
  case unoffEB => exact Laws.MatrixEntry.unoffEB
  case cpxAbs addr => exact Laws.MatrixEntry.cpxAbs addr
  case sbcAbs => exact Laws.MatrixEntry.sbcAbs
  case incAbs => exact Laws.MatrixEntry.incAbs
  case unoffEF => exact Laws.MatrixEntry.unoffEF
  case beq rel => exact Laws.MatrixEntry.beq rel
  case sbcIndY => exact Laws.MatrixEntry.sbcIndY
  case unoffF2 => exact Laws.MatrixEntry.unoffF2
  case unoffF3 => exact Laws.MatrixEntry.unoffF3
  case unoffF4 => exact Laws.MatrixEntry.unoffF4
  case sbcZpX => exact Laws.MatrixEntry.sbcZpX
  case incZpX => exact Laws.MatrixEntry.incZpX
  case unoffF7 => exact Laws.MatrixEntry.unoffF7
  case sed => exact Laws.MatrixEntry.sed
  case sbcAbsY => exact Laws.MatrixEntry.sbcAbsY
  case unoffFA => exact Laws.MatrixEntry.unoffFA
  case unoffFB => exact Laws.MatrixEntry.unoffFB
  case unoffFC => exact Laws.MatrixEntry.unoffFC
  case sbcAbsX => exact Laws.MatrixEntry.sbcAbsX
  case incAbsX => exact Laws.MatrixEntry.incAbsX
  case unoffFF => exact Laws.MatrixEntry.unoffFF

/-- What an entry of the matrix says of its instruction: its opcode byte, whether it is implemented, its size and its
operand bytes. -/
def FormFits (op : Byte) : Form → Prop
  | .f1 i => i.opcode = op ∧ i.implemented = true ∧ i.size = some 1 ∧ i.operandBytes = []
  | .f2 mk => ∀ b, (mk b).opcode = op ∧ (mk b).implemented = true ∧ (mk b).size = some 2 ∧ (mk b).operandBytes = [b]
  | .f3 mk => ∀ a, (mk a).opcode = op ∧ (mk a).implemented = true ∧ (mk a).size = some 3 ∧ (mk a).operandBytes = addrBytes a
  | .marker i => i.opcode = op ∧ i.implemented = false ∧ i.operandBytes = []

/-- Every entry of the matrix, by its opcode byte's number. -/
theorem formFits_ofNat (n : Nat) (h : n < 256) : FormFits (BitVec.ofNat 8 n) (formOf (BitVec.ofNat 8 n)) := by
  interval_cases n <;> first
    | exact ⟨rfl, rfl, rfl, rfl⟩
    | exact ⟨rfl, rfl, rfl⟩
    | exact fun _ => ⟨rfl, rfl, rfl, rfl⟩

/-- Every entry of the matrix fits its opcode byte (R53, R54, R55, R57). -/
theorem formFits (op : Byte) : FormFits op (formOf op) := by
  have := formFits_ofNat op.toNat op.isLt
  rwa [BitVec.ofNat_toNat, BitVec.setWidth_eq] at this

end Sys2Proof
end

