-- ==== Sys2Proof/Laws/Flags.lean ====
section
/-! SUPPORT. What each bit utility and flag computation does to each bit of `P` (R85 to R94, R119). -/

namespace Sys2Proof.Machine

/-! ### Bit utilities -/

theorem testBit_set (v i j : Nat) : (BitUtil.set v i).testBit j = (v.testBit j || decide (i = j)) := by
  simp [BitUtil.set, Nat.testBit_two_pow]

theorem testBit_clear (v i j : Nat) : (BitUtil.clear v i).testBit j = (v.testBit j && !decide (i = j)) := by
  by_cases h : i = j <;> simp [BitUtil.clear, h]

theorem check_ne_zero_iff (v i : Nat) : BitUtil.check v i ≠ 0 ↔ v.testBit i = true := by
  rw [BitUtil.check, Nat.testBit, Nat.and_two_pow]
  cases h : v.testBit i <;> simp_all [Nat.testBit]

theorem testBit_copy (src dst i j : Nat) :
    (BitUtil.copy src dst i).testBit j = if i = j then src.testBit j else dst.testBit j := by
  unfold BitUtil.copy
  by_cases hs : BitUtil.check src i ≠ 0
  · rw [if_pos hs, testBit_set]
    rw [check_ne_zero_iff] at hs
    by_cases h : i = j
    · subst h; simp [hs]
    · simp [h]
  · rw [if_neg hs, testBit_clear]
    rw [check_ne_zero_iff] at hs
    by_cases h : i = j
    · subst h; simpa using hs
    · simp [h]

/-! ### The flags -/

theorem Flag.bit_lt (f : Flag) : f.bit < 8 := by cases f <;> decide

theorem Flag.bit_inj {f g : Flag} : f.bit = g.bit ↔ f = g := by cases f <;> cases g <;> decide

theorem flagOf_u8 (n : Nat) (f : Flag) : flagOf (u8 n) f = n.testBit f.bit := by
  rw [flagOf, u8, BitVec.getLsbD_ofNat, decide_eq_true f.bit_lt, Bool.true_and]

theorem flagOf_eq_testBit (p : Byte) (f : Flag) : flagOf p f = p.toNat.testBit f.bit := by
  rw [flagOf, BitVec.testBit_toNat]

@[simp] theorem flagOf_setFlag (p : Byte) (f g : Flag) : flagOf (setFlag p f) g = (decide (g = f) || flagOf p g) := by
  rw [setFlag, flagOf_u8, testBit_set, flagOf_eq_testBit]
  simp [Flag.bit_inj, eq_comm, Bool.or_comm]

@[simp] theorem flagOf_clearFlag (p : Byte) (f g : Flag) :
    flagOf (clearFlag p f) g = (!decide (g = f) && flagOf p g) := by
  rw [clearFlag, flagOf_u8, testBit_clear, flagOf_eq_testBit]
  simp [Flag.bit_inj, eq_comm, Bool.and_comm]

/-- An assignment writes its own flag and no other (R86). -/
@[simp] theorem flagOf_assignFlag (p : Byte) (f g : Flag) (v : Bool) :
    flagOf (assignFlag p f v) g = if g = f then v else flagOf p g := by
  cases v <;> by_cases h : g = f <;> simp [assignFlag, h]

/-- A copy takes the flag's own bit from the source (R94). -/
@[simp] theorem flagOf_copyFlag (src p : Byte) (f g : Flag) :
    flagOf (copyFlag src p f) g = if g = f then flagOf src g else flagOf p g := by
  rw [copyFlag, flagOf_u8, testBit_copy, flagOf_eq_testBit, flagOf_eq_testBit]
  simp [Flag.bit_inj, eq_comm]

/-! ### Truncation -/

@[simp] theorem u8_toNat (v : Byte) : u8 v.toNat = v := by simp [u8]

@[simp] theorem toNat_u8 (n : Nat) : (u8 n).toNat = n % 256 := by simp [u8]

/-! ### The helpers -/

/-- What SetZN does to each flag (R86). -/
@[simp] theorem flagOf_setZN (v : Nat) (p : Byte) (g : Flag) :
    flagOf (setZN v p) g = match g with
      | .z => decide (u8 v = 0x00)
      | .n => (u8 v).getLsbD 7
      | g => flagOf p g := by
  cases g <;> simp [setZN, setNegative, setZero, beq_eq_decide]

/-- What Compare does to each flag (R87). -/
@[simp] theorem flagOf_compareFlags (r m p : Byte) (g : Flag) :
    flagOf (compareFlags r m p) g = match g with
      | .c => decide (m.toNat ≤ r.toNat)
      | .z => decide (r - m = 0x00)
      | .n => (r - m).getLsbD 7
      | g => flagOf p g := by
  cases g <;> simp only [compareFlags, flagOf_assignFlag, flagOf_setZN, u8_toNat] <;> rfl

/-- What ADC does to each flag (R88). -/
@[simp] theorem flagOf_adcFlags (a m : Byte) (raw : Nat) (p : Byte) (g : Flag) :
    flagOf (adcFlags a m raw p) g = match g with
      | .c => decide (255 < raw)
      | .z => decide (u8 raw = 0x00)
      | .n => (u8 raw).getLsbD 7
      | .v => adcOverflow a m raw
      | g => flagOf p g := by
  cases g <;> simp only [adcFlags, flagOf_setZN, flagOf_assignFlag, u8_toNat] <;> simp

/-- What a shift does to each flag (R89, R90). -/
@[simp] theorem flagOf_shiftFlags (out : Bool) (result p : Byte) (g : Flag) :
    flagOf (shiftFlags out result p) g = match g with
      | .c => out
      | .z => decide (result = 0x00)
      | .n => result.getLsbD 7
      | g => flagOf p g := by
  cases g <;> cases out <;> simp [shiftFlags]

/-- What BIT does to each flag (R94). -/
@[simp] theorem flagOf_bitFlags (a m p : Byte) (g : Flag) :
    flagOf (bitFlags a m p) g = match g with
      | .z => decide (a &&& m = 0x00)
      | .n => m.getLsbD 7
      | .v => m.getLsbD 6
      | g => flagOf p g := by
  cases g <;> simp [bitFlags, beq_eq_decide] <;> rfl

/-- What PLP leaves in each flag (R119). -/
@[simp] theorem flagOf_pulledStatus (v : Byte) (g : Flag) :
    flagOf (pulledStatus v) g = match g with
      | .r => true
      | .b => false
      | g => flagOf v g := by
  cases g <;> simp [pulledStatus, flagOf, Flag.bit]

end Sys2Proof.Machine
end

