-- ==== Sys2Proof/Laws/State.lean ====
section
/-! SUPPORT. One lemma per field per update of State: what each update leaves in each field. -/

namespace Sys2Proof.Machine

/-! ### setA -/

@[simp] theorem State.setA_a (s : State) (v : Byte) : (s.setA v).a = v := rfl
@[simp] theorem State.setA_x (s : State) (v : Byte) : (s.setA v).x = s.x := rfl
@[simp] theorem State.setA_y (s : State) (v : Byte) : (s.setA v).y = s.y := rfl
@[simp] theorem State.setA_sp (s : State) (v : Byte) : (s.setA v).sp = s.sp := rfl
@[simp] theorem State.setA_p (s : State) (v : Byte) : (s.setA v).p = s.p := rfl
@[simp] theorem State.setA_pc (s : State) (v : Byte) : (s.setA v).pc = s.pc := rfl
@[simp] theorem State.setA_mem (s : State) (v : Byte) : (s.setA v).mem = s.mem := rfl
@[simp] theorem State.setA_cycle (s : State) (v : Byte) : (s.setA v).cycle = s.cycle := rfl
@[simp] theorem State.setA_pcSet (s : State) (v : Byte) : (s.setA v).pcSet = s.pcSet := rfl
@[simp] theorem State.setA_cart (s : State) (v : Byte) : (s.setA v).cart = s.cart := rfl
@[simp] theorem State.setA_params (s : State) (v : Byte) : (s.setA v).params = s.params := rfl

/-! ### setX -/

@[simp] theorem State.setX_a (s : State) (v : Byte) : (s.setX v).a = s.a := rfl
@[simp] theorem State.setX_x (s : State) (v : Byte) : (s.setX v).x = v := rfl
@[simp] theorem State.setX_y (s : State) (v : Byte) : (s.setX v).y = s.y := rfl
@[simp] theorem State.setX_sp (s : State) (v : Byte) : (s.setX v).sp = s.sp := rfl
@[simp] theorem State.setX_p (s : State) (v : Byte) : (s.setX v).p = s.p := rfl
@[simp] theorem State.setX_pc (s : State) (v : Byte) : (s.setX v).pc = s.pc := rfl
@[simp] theorem State.setX_mem (s : State) (v : Byte) : (s.setX v).mem = s.mem := rfl
@[simp] theorem State.setX_cycle (s : State) (v : Byte) : (s.setX v).cycle = s.cycle := rfl
@[simp] theorem State.setX_pcSet (s : State) (v : Byte) : (s.setX v).pcSet = s.pcSet := rfl
@[simp] theorem State.setX_cart (s : State) (v : Byte) : (s.setX v).cart = s.cart := rfl
@[simp] theorem State.setX_params (s : State) (v : Byte) : (s.setX v).params = s.params := rfl

/-! ### setY -/

@[simp] theorem State.setY_a (s : State) (v : Byte) : (s.setY v).a = s.a := rfl
@[simp] theorem State.setY_x (s : State) (v : Byte) : (s.setY v).x = s.x := rfl
@[simp] theorem State.setY_y (s : State) (v : Byte) : (s.setY v).y = v := rfl
@[simp] theorem State.setY_sp (s : State) (v : Byte) : (s.setY v).sp = s.sp := rfl
@[simp] theorem State.setY_p (s : State) (v : Byte) : (s.setY v).p = s.p := rfl
@[simp] theorem State.setY_pc (s : State) (v : Byte) : (s.setY v).pc = s.pc := rfl
@[simp] theorem State.setY_mem (s : State) (v : Byte) : (s.setY v).mem = s.mem := rfl
@[simp] theorem State.setY_cycle (s : State) (v : Byte) : (s.setY v).cycle = s.cycle := rfl
@[simp] theorem State.setY_pcSet (s : State) (v : Byte) : (s.setY v).pcSet = s.pcSet := rfl
@[simp] theorem State.setY_cart (s : State) (v : Byte) : (s.setY v).cart = s.cart := rfl
@[simp] theorem State.setY_params (s : State) (v : Byte) : (s.setY v).params = s.params := rfl

/-! ### setSP -/

@[simp] theorem State.setSP_a (s : State) (v : Byte) : (s.setSP v).a = s.a := rfl
@[simp] theorem State.setSP_x (s : State) (v : Byte) : (s.setSP v).x = s.x := rfl
@[simp] theorem State.setSP_y (s : State) (v : Byte) : (s.setSP v).y = s.y := rfl
@[simp] theorem State.setSP_sp (s : State) (v : Byte) : (s.setSP v).sp = v := rfl
@[simp] theorem State.setSP_p (s : State) (v : Byte) : (s.setSP v).p = s.p := rfl
@[simp] theorem State.setSP_pc (s : State) (v : Byte) : (s.setSP v).pc = s.pc := rfl
@[simp] theorem State.setSP_mem (s : State) (v : Byte) : (s.setSP v).mem = s.mem := rfl
@[simp] theorem State.setSP_cycle (s : State) (v : Byte) : (s.setSP v).cycle = s.cycle := rfl
@[simp] theorem State.setSP_pcSet (s : State) (v : Byte) : (s.setSP v).pcSet = s.pcSet := rfl
@[simp] theorem State.setSP_cart (s : State) (v : Byte) : (s.setSP v).cart = s.cart := rfl
@[simp] theorem State.setSP_params (s : State) (v : Byte) : (s.setSP v).params = s.params := rfl

/-! ### setP -/

@[simp] theorem State.setP_a (s : State) (v : Byte) : (s.setP v).a = s.a := rfl
@[simp] theorem State.setP_x (s : State) (v : Byte) : (s.setP v).x = s.x := rfl
@[simp] theorem State.setP_y (s : State) (v : Byte) : (s.setP v).y = s.y := rfl
@[simp] theorem State.setP_sp (s : State) (v : Byte) : (s.setP v).sp = s.sp := rfl
@[simp] theorem State.setP_p (s : State) (v : Byte) : (s.setP v).p = v := rfl
@[simp] theorem State.setP_pc (s : State) (v : Byte) : (s.setP v).pc = s.pc := rfl
@[simp] theorem State.setP_mem (s : State) (v : Byte) : (s.setP v).mem = s.mem := rfl
@[simp] theorem State.setP_cycle (s : State) (v : Byte) : (s.setP v).cycle = s.cycle := rfl
@[simp] theorem State.setP_pcSet (s : State) (v : Byte) : (s.setP v).pcSet = s.pcSet := rfl
@[simp] theorem State.setP_cart (s : State) (v : Byte) : (s.setP v).cart = s.cart := rfl
@[simp] theorem State.setP_params (s : State) (v : Byte) : (s.setP v).params = s.params := rfl

/-! ### memWrite -/

@[simp] theorem State.memWrite_a (s : State) (b : Addr) (v : Byte) : (s.memWrite b v).a = s.a := rfl
@[simp] theorem State.memWrite_x (s : State) (b : Addr) (v : Byte) : (s.memWrite b v).x = s.x := rfl
@[simp] theorem State.memWrite_y (s : State) (b : Addr) (v : Byte) : (s.memWrite b v).y = s.y := rfl
@[simp] theorem State.memWrite_sp (s : State) (b : Addr) (v : Byte) : (s.memWrite b v).sp = s.sp := rfl
@[simp] theorem State.memWrite_p (s : State) (b : Addr) (v : Byte) : (s.memWrite b v).p = s.p := rfl
@[simp] theorem State.memWrite_pc (s : State) (b : Addr) (v : Byte) : (s.memWrite b v).pc = s.pc := rfl
@[simp] theorem State.memWrite_mem (s : State) (b : Addr) (v : Byte) : (s.memWrite b v).mem = s.mem.write b.toNat v := rfl
@[simp] theorem State.memWrite_cycle (s : State) (b : Addr) (v : Byte) : (s.memWrite b v).cycle = s.cycle := rfl
@[simp] theorem State.memWrite_pcSet (s : State) (b : Addr) (v : Byte) : (s.memWrite b v).pcSet = s.pcSet := rfl
@[simp] theorem State.memWrite_cart (s : State) (b : Addr) (v : Byte) : (s.memWrite b v).cart = s.cart := rfl
@[simp] theorem State.memWrite_params (s : State) (b : Addr) (v : Byte) : (s.memWrite b v).params = s.params := rfl

/-! ### setPC -/

@[simp] theorem State.setPC_a (s : State) (b : Addr) : (s.setPC b).a = s.a := rfl
@[simp] theorem State.setPC_x (s : State) (b : Addr) : (s.setPC b).x = s.x := rfl
@[simp] theorem State.setPC_y (s : State) (b : Addr) : (s.setPC b).y = s.y := rfl
@[simp] theorem State.setPC_sp (s : State) (b : Addr) : (s.setPC b).sp = s.sp := rfl
@[simp] theorem State.setPC_p (s : State) (b : Addr) : (s.setPC b).p = s.p := rfl
@[simp] theorem State.setPC_pc (s : State) (b : Addr) : (s.setPC b).pc = b := rfl
@[simp] theorem State.setPC_mem (s : State) (b : Addr) : (s.setPC b).mem = s.mem := rfl
@[simp] theorem State.setPC_cycle (s : State) (b : Addr) : (s.setPC b).cycle = s.cycle := rfl
@[simp] theorem State.setPC_pcSet (s : State) (b : Addr) : (s.setPC b).pcSet = true := rfl
@[simp] theorem State.setPC_cart (s : State) (b : Addr) : (s.setPC b).cart = s.cart := rfl
@[simp] theorem State.setPC_params (s : State) (b : Addr) : (s.setPC b).params = s.params := rfl

/-! ### addPC -/

@[simp] theorem State.addPC_a (s : State) (d : Addr) : (s.addPC d).a = s.a := rfl
@[simp] theorem State.addPC_x (s : State) (d : Addr) : (s.addPC d).x = s.x := rfl
@[simp] theorem State.addPC_y (s : State) (d : Addr) : (s.addPC d).y = s.y := rfl
@[simp] theorem State.addPC_sp (s : State) (d : Addr) : (s.addPC d).sp = s.sp := rfl
@[simp] theorem State.addPC_p (s : State) (d : Addr) : (s.addPC d).p = s.p := rfl
@[simp] theorem State.addPC_pc (s : State) (d : Addr) : (s.addPC d).pc = s.pc + d := rfl
@[simp] theorem State.addPC_mem (s : State) (d : Addr) : (s.addPC d).mem = s.mem := rfl
@[simp] theorem State.addPC_cycle (s : State) (d : Addr) : (s.addPC d).cycle = s.cycle := rfl
@[simp] theorem State.addPC_pcSet (s : State) (d : Addr) : (s.addPC d).pcSet = s.pcSet := rfl
@[simp] theorem State.addPC_cart (s : State) (d : Addr) : (s.addPC d).cart = s.cart := rfl
@[simp] theorem State.addPC_params (s : State) (d : Addr) : (s.addPC d).params = s.params := rfl

/-! ### beginStep -/

@[simp] theorem State.beginStep_a (s : State) : (s.beginStep).a = s.a := rfl
@[simp] theorem State.beginStep_x (s : State) : (s.beginStep).x = s.x := rfl
@[simp] theorem State.beginStep_y (s : State) : (s.beginStep).y = s.y := rfl
@[simp] theorem State.beginStep_sp (s : State) : (s.beginStep).sp = s.sp := rfl
@[simp] theorem State.beginStep_p (s : State) : (s.beginStep).p = s.p := rfl
@[simp] theorem State.beginStep_pc (s : State) : (s.beginStep).pc = s.pc := rfl
@[simp] theorem State.beginStep_mem (s : State) : (s.beginStep).mem = s.mem := rfl
@[simp] theorem State.beginStep_cycle (s : State) : (s.beginStep).cycle = s.cycle := rfl
@[simp] theorem State.beginStep_pcSet (s : State) : (s.beginStep).pcSet = false := rfl
@[simp] theorem State.beginStep_cart (s : State) : (s.beginStep).cart = s.cart := rfl
@[simp] theorem State.beginStep_params (s : State) : (s.beginStep).params = s.params := rfl

/-! ### setZN -/

@[simp] theorem State.setZN_a (s : State) (v : Byte) : (s.setZN v).a = s.a := rfl
@[simp] theorem State.setZN_x (s : State) (v : Byte) : (s.setZN v).x = s.x := rfl
@[simp] theorem State.setZN_y (s : State) (v : Byte) : (s.setZN v).y = s.y := rfl
@[simp] theorem State.setZN_sp (s : State) (v : Byte) : (s.setZN v).sp = s.sp := rfl
@[simp] theorem State.setZN_p (s : State) (v : Byte) : (s.setZN v).p = Machine.setZN v.toNat s.p := rfl
@[simp] theorem State.setZN_pc (s : State) (v : Byte) : (s.setZN v).pc = s.pc := rfl
@[simp] theorem State.setZN_mem (s : State) (v : Byte) : (s.setZN v).mem = s.mem := rfl
@[simp] theorem State.setZN_cycle (s : State) (v : Byte) : (s.setZN v).cycle = s.cycle := rfl
@[simp] theorem State.setZN_pcSet (s : State) (v : Byte) : (s.setZN v).pcSet = s.pcSet := rfl
@[simp] theorem State.setZN_cart (s : State) (v : Byte) : (s.setZN v).cart = s.cart := rfl
@[simp] theorem State.setZN_params (s : State) (v : Byte) : (s.setZN v).params = s.params := rfl

/-! ### pulled -/

@[simp] theorem State.pulled_a (s : State) : (s.pulled).a = s.a := rfl
@[simp] theorem State.pulled_x (s : State) : (s.pulled).x = s.x := rfl
@[simp] theorem State.pulled_y (s : State) : (s.pulled).y = s.y := rfl
@[simp] theorem State.pulled_sp (s : State) : (s.pulled).sp = s.sp + 1 := rfl
@[simp] theorem State.pulled_p (s : State) : (s.pulled).p = s.p := rfl
@[simp] theorem State.pulled_pc (s : State) : (s.pulled).pc = s.pc := rfl
@[simp] theorem State.pulled_mem (s : State) : (s.pulled).mem = s.mem := rfl
@[simp] theorem State.pulled_cycle (s : State) : (s.pulled).cycle = s.cycle := rfl
@[simp] theorem State.pulled_pcSet (s : State) : (s.pulled).pcSet = s.pcSet := rfl
@[simp] theorem State.pulled_cart (s : State) : (s.pulled).cart = s.cart := rfl
@[simp] theorem State.pulled_params (s : State) : (s.pulled).params = s.params := rfl

/-! ### push -/

@[simp] theorem State.push_a (s : State) (v : Byte) : (s.push v).a = s.a := rfl
@[simp] theorem State.push_x (s : State) (v : Byte) : (s.push v).x = s.x := rfl
@[simp] theorem State.push_y (s : State) (v : Byte) : (s.push v).y = s.y := rfl
@[simp] theorem State.push_sp (s : State) (v : Byte) : (s.push v).sp = s.sp - 1 := rfl
@[simp] theorem State.push_p (s : State) (v : Byte) : (s.push v).p = s.p := rfl
@[simp] theorem State.push_pc (s : State) (v : Byte) : (s.push v).pc = s.pc := rfl
@[simp] theorem State.push_mem (s : State) (v : Byte) : (s.push v).mem = s.mem.write (stackAddr (s.sp - 1)).toNat v := rfl
@[simp] theorem State.push_cycle (s : State) (v : Byte) : (s.push v).cycle = s.cycle := rfl
@[simp] theorem State.push_pcSet (s : State) (v : Byte) : (s.push v).pcSet = s.pcSet := rfl
@[simp] theorem State.push_cart (s : State) (v : Byte) : (s.push v).cart = s.cart := rfl
@[simp] theorem State.push_params (s : State) (v : Byte) : (s.push v).params = s.params := rfl

/-! ### pushReturn -/

@[simp] theorem State.pushReturn_a (s : State) (r : Addr) : (s.pushReturn r).a = s.a := rfl
@[simp] theorem State.pushReturn_x (s : State) (r : Addr) : (s.pushReturn r).x = s.x := rfl
@[simp] theorem State.pushReturn_y (s : State) (r : Addr) : (s.pushReturn r).y = s.y := rfl
@[simp] theorem State.pushReturn_sp (s : State) (r : Addr) : (s.pushReturn r).sp = s.sp - 2 := rfl
@[simp] theorem State.pushReturn_p (s : State) (r : Addr) : (s.pushReturn r).p = s.p := rfl
@[simp] theorem State.pushReturn_pc (s : State) (r : Addr) : (s.pushReturn r).pc = s.pc := rfl
@[simp] theorem State.pushReturn_mem (s : State) (r : Addr) : (s.pushReturn r).mem = (s.mem.write (stackAddr s.sp).toNat (hiByte r)).write (stackAddr (s.sp - 1)).toNat (loByte r) := rfl
@[simp] theorem State.pushReturn_cycle (s : State) (r : Addr) : (s.pushReturn r).cycle = s.cycle := rfl
@[simp] theorem State.pushReturn_pcSet (s : State) (r : Addr) : (s.pushReturn r).pcSet = s.pcSet := rfl
@[simp] theorem State.pushReturn_cart (s : State) (r : Addr) : (s.pushReturn r).cart = s.cart := rfl
@[simp] theorem State.pushReturn_params (s : State) (r : Addr) : (s.pushReturn r).params = s.params := rfl

/-! ### addCycles -/

@[simp] theorem State.addCycles_a (s : State) (op : Byte) : (s.addCycles op).a = s.a := rfl
@[simp] theorem State.addCycles_x (s : State) (op : Byte) : (s.addCycles op).x = s.x := rfl
@[simp] theorem State.addCycles_y (s : State) (op : Byte) : (s.addCycles op).y = s.y := rfl
@[simp] theorem State.addCycles_sp (s : State) (op : Byte) : (s.addCycles op).sp = s.sp := rfl
@[simp] theorem State.addCycles_p (s : State) (op : Byte) : (s.addCycles op).p = s.p := rfl
@[simp] theorem State.addCycles_pc (s : State) (op : Byte) : (s.addCycles op).pc = s.pc := rfl
@[simp] theorem State.addCycles_mem (s : State) (op : Byte) : (s.addCycles op).mem = s.mem := rfl
@[simp] theorem State.addCycles_cycle (s : State) (op : Byte) : (s.addCycles op).cycle = s.cycle + s.params.cost op := rfl
@[simp] theorem State.addCycles_pcSet (s : State) (op : Byte) : (s.addCycles op).pcSet = s.pcSet := rfl
@[simp] theorem State.addCycles_cart (s : State) (op : Byte) : (s.addCycles op).cart = s.cart := rfl
@[simp] theorem State.addCycles_params (s : State) (op : Byte) : (s.addCycles op).params = s.params := rfl

/-! ### advance -/

/-- A step whose handler assigned `PC` leaves it there (R100). -/
theorem State.advance_of_pcSet {s : State} (h : s.pcSet = true) (n : Option Nat) : s.advance n = s := by
  simp [State.advance, h]

/-- A step whose handler did not assign `PC` advances it by the size (R100). -/
theorem State.advance_of_not_pcSet {s : State} (h : s.pcSet = false) (n : Nat) :
    s.advance (some n) = { s with pc := s.pc + BitVec.ofNat 16 n } := by
  simp [State.advance, h]

/-- Advancing changes at most the program counter. -/
theorem State.advance_eq (s : State) (n : Option Nat) : s.advance n = { s with pc := (s.advance n).pc } := by
  unfold State.advance; split
  · rfl
  · split <;> rfl

@[simp] theorem State.advance_a (s : State) (n : Option Nat) : (s.advance n).a = s.a := by
  rw [State.advance_eq]
@[simp] theorem State.advance_x (s : State) (n : Option Nat) : (s.advance n).x = s.x := by
  rw [State.advance_eq]
@[simp] theorem State.advance_y (s : State) (n : Option Nat) : (s.advance n).y = s.y := by
  rw [State.advance_eq]
@[simp] theorem State.advance_sp (s : State) (n : Option Nat) : (s.advance n).sp = s.sp := by
  rw [State.advance_eq]
@[simp] theorem State.advance_p (s : State) (n : Option Nat) : (s.advance n).p = s.p := by
  rw [State.advance_eq]
@[simp] theorem State.advance_mem (s : State) (n : Option Nat) : (s.advance n).mem = s.mem := by
  rw [State.advance_eq]
@[simp] theorem State.advance_cycle (s : State) (n : Option Nat) : (s.advance n).cycle = s.cycle := by
  rw [State.advance_eq]
@[simp] theorem State.advance_pcSet (s : State) (n : Option Nat) : (s.advance n).pcSet = s.pcSet := by
  rw [State.advance_eq]
@[simp] theorem State.advance_cart (s : State) (n : Option Nat) : (s.advance n).cart = s.cart := by
  rw [State.advance_eq]
@[simp] theorem State.advance_params (s : State) (n : Option Nat) : (s.advance n).params = s.params := by
  rw [State.advance_eq]

end Sys2Proof.Machine
end

