-- ==== Sys2Proof/Laws/Exec.lean ====
section
/-! SUPPORT. What executing an instruction can do, said once (R53, R176): an implemented instruction completes around its
handler, any other raises UnimplementedOpcode. -/

namespace Sys2Proof.Machine

/-- The handler of an implemented instruction (R53: `Implemented(fn)`), none for the unimplemented marker. -/
def handlerOf : Instr → Option (State → State)
  | .brk => none
  | .oraIndX => none
  | .unoff02 => none
  | .unoff03 => none
  | .unoff04 => none
  | .oraZp => none
  | .aslZp => none
  | .unoff07 => none
  | .php => some (php)
  | .oraImm => none
  | .aslAcc => some (asl)
  | .unoff0B => none
  | .unoff0C => none
  | .oraAbs => none
  | .aslAbs => none
  | .unoff0F => none
  | .bpl rel => some (branch (flagIs .n false) rel)
  | .oraIndY => none
  | .unoff12 => none
  | .unoff13 => none
  | .unoff14 => none
  | .oraZpX => none
  | .aslZpX => none
  | .unoff17 => none
  | .clc => some (clearFlagOf .c)
  | .oraAbsY => none
  | .unoff1A => none
  | .unoff1B => none
  | .unoff1C => none
  | .oraAbsX => none
  | .aslAbsX => none
  | .unoff1F => none
  | .jsr addr => some (callSubroutine (addrAbs addr))
  | .andIndX => none
  | .unoff22 => none
  | .unoff23 => none
  | .bitZp addr => some (bit (addrZp addr))
  | .andZp => none
  | .rolZp => none
  | .unoff27 => none
  | .plp => some (plp)
  | .andImm => none
  | .rolAcc => none
  | .unoff2B => none
  | .bitAbs addr => some (bit (addrAbs addr))
  | .andAbs => none
  | .rolAbs => none
  | .unoff2F => none
  | .bmi rel => some (branch (flagIs .n true) rel)
  | .andIndY => none
  | .unoff32 => none
  | .unoff33 => none
  | .unoff34 => none
  | .andZpX => none
  | .rolZpX => none
  | .unoff37 => none
  | .sec => some (setFlagOf .c)
  | .andAbsY => none
  | .unoff3A => none
  | .unoff3B => none
  | .unoff3C => none
  | .andAbsX => none
  | .rolAbsX => none
  | .unoff3F => none
  | .rti => none
  | .eorIndX => none
  | .unoff42 => none
  | .unoff43 => none
  | .unoff44 => none
  | .eorZp => none
  | .lsrZp => none
  | .unoff47 => none
  | .pha => some (pha)
  | .eorImm => none
  | .lsrAcc => some (lsr)
  | .unoff4B => none
  | .jmpAbs addr => some (jmp (addrAbs addr))
  | .eorAbs => none
  | .lsrAbs => none
  | .unoff4F => none
  | .bvc rel => some (branch (flagIs .v false) rel)
  | .eorIndY => none
  | .unoff52 => none
  | .unoff53 => none
  | .unoff54 => none
  | .eorZpX => none
  | .lsrZpX => none
  | .unoff57 => none
  | .cli => none
  | .eorAbsY => none
  | .unoff5A => none
  | .unoff5B => none
  | .unoff5C => none
  | .eorAbsX => none
  | .lsrAbsX => none
  | .unoff5F => none
  | .rts => some (rts)
  | .adcIndX => none
  | .unoff62 => none
  | .unoff63 => none
  | .unoff64 => none
  | .adcZp addr => some (adc (operandZp addr))
  | .rorZp => none
  | .unoff67 => none
  | .pla => some (pla)
  | .adcImm imm => some (adc (operandImm imm))
  | .rorAcc => none
  | .unoff6B => none
  | .jmpInd => none
  | .adcAbs addr => some (adc (operandAbs addr))
  | .rorAbs => none
  | .unoff6F => none
  | .bvs rel => some (branch (flagIs .v true) rel)
  | .adcIndY => none
  | .unoff72 => none
  | .unoff73 => none
  | .unoff74 => none
  | .adcZpX => none
  | .rorZpX => none
  | .unoff77 => none
  | .sei => some (setFlagOf .i)
  | .adcAbsY => none
  | .unoff7A => none
  | .unoff7B => none
  | .unoff7C => none
  | .adcAbsX => none
  | .rorAbsX => none
  | .unoff7F => none
  | .unoff80 => none
  | .staIndX => none
  | .unoff82 => none
  | .unoff83 => none
  | .styZp addr => some (sty (addrZp addr))
  | .staZp addr => some (sta (addrZp addr))
  | .stxZp addr => some (stx (addrZp addr))
  | .unoff87 => none
  | .dey => none
  | .unoff89 => none
  | .txa => some (txa)
  | .unoff8B => none
  | .styAbs addr => some (sty (addrAbs addr))
  | .staAbs addr => some (sta (addrAbs addr))
  | .stxAbs addr => some (stx (addrAbs addr))
  | .unoff8F => none
  | .bcc rel => some (branch (flagIs .c false) rel)
  | .staIndY => none
  | .unoff92 => none
  | .unoff93 => none
  | .styZpX => none
  | .staZpX => none
  | .stxZpY => none
  | .unoff97 => none
  | .tya => some (tya)
  | .staAbsY => none
  | .txs => none
  | .unoff9B => none
  | .unoff9C => none
  | .staAbsX => none
  | .unoff9E => none
  | .unoff9F => none
  | .ldyImm imm => some (ldy (operandImm imm))
  | .ldaIndX => none
  | .ldxImm imm => some (ldx (operandImm imm))
  | .unoffA3 => none
  | .ldyZp addr => some (ldy (operandZp addr))
  | .ldaZp addr => some (lda (operandZp addr))
  | .ldxZp addr => some (ldx (operandZp addr))
  | .unoffA7 => none
  | .tay => some (tay)
  | .ldaImm imm => some (lda (operandImm imm))
  | .tax => some (tax)
  | .unoffAB => none
  | .ldyAbs addr => some (ldy (operandAbs addr))
  | .ldaAbs addr => some (lda (operandAbs addr))
  | .ldxAbs addr => some (ldx (operandAbs addr))
  | .unoffAF => none
  | .bcs rel => some (branch (flagIs .c true) rel)
  | .ldaIndY => none
  | .unoffB2 => none
  | .unoffB3 => none
  | .ldyZpX => none
  | .ldaZpX => none
  | .ldxZpY => none
  | .unoffB7 => none
  | .clv => some (clearFlagOf .v)
  | .ldaAbsY => none
  | .tsx => none
  | .unoffBB => none
  | .ldyAbsX => none
  | .ldaAbsX => none
  | .ldxAbsY => none
  | .unoffBF => none
  | .cpyImm imm => some (cpy (operandImm imm))
  | .cmpIndX => none
  | .unoffC2 => none
  | .unoffC3 => none
  | .cpyZp addr => some (cpy (operandZp addr))
  | .cmpZp addr => some (cmp (operandZp addr))
  | .decZp => none
  | .unoffC7 => none
  | .iny => none
  | .cmpImm imm => some (cmp (operandImm imm))
  | .dex => none
  | .unoffCB => none
  | .cpyAbs addr => some (cpy (operandAbs addr))
  | .cmpAbs addr => some (cmp (operandAbs addr))
  | .decAbs => none
  | .unoffCF => none
  | .bne rel => some (branch (flagIs .z false) rel)
  | .cmpIndY => none
  | .unoffD2 => none
  | .unoffD3 => none
  | .unoffD4 => none
  | .cmpZpX => none
  | .decZpX => none
  | .unoffD7 => none
  | .cld => some (clearFlagOf .d)
  | .cmpAbsY => none
  | .unoffDA => none
  | .unoffDB => none
  | .unoffDC => none
  | .cmpAbsX => none
  | .decAbsX => none
  | .unoffDF => none
  | .cpxImm imm => some (cpx (operandImm imm))
  | .sbcIndX => none
  | .unoffE2 => none
  | .unoffE3 => none
  | .cpxZp addr => some (cpx (operandZp addr))
  | .sbcZp => none
  | .incZp => none
  | .unoffE7 => none
  | .inx => none
  | .sbcImm => none
  | .nop => some (nop)
  | .unoffEB => none
  | .cpxAbs addr => some (cpx (operandAbs addr))
  | .sbcAbs => none
  | .incAbs => none
  | .unoffEF => none
  | .beq rel => some (branch (flagIs .z true) rel)
  | .sbcIndY => none
  | .unoffF2 => none
  | .unoffF3 => none
  | .unoffF4 => none
  | .sbcZpX => none
  | .incZpX => none
  | .unoffF7 => none
  | .sed => some (setFlagOf .d)
  | .sbcAbsY => none
  | .unoffFA => none
  | .unoffFB => none
  | .unoffFC => none
  | .sbcAbsX => none
  | .incAbsX => none
  | .unoffFF => none

/-- Executing an instruction, by its handler (R176). -/
theorem exec_eq (i : Instr) (s : State) :
    exec i s = match handlerOf i with
      | some h => complete i h s
      | none => unimplemented i s := by
  cases i <;> rfl

/-- The handlers are those of the implemented entries (R54, R57). -/
theorem handlerOf_isSome (i : Instr) : (handlerOf i).isSome = i.implemented := by
  cases i <;> rfl

/-- An implemented entry has a size (R55). -/
theorem size_isSome_of_handler {i : Instr} : (handlerOf i).isSome = true → i.size.isSome = true := by
  cases i <;> first | exact fun _ => rfl | exact fun h => absurd h Bool.false_ne_true

/-- A completed step, inverted: the entry is implemented and the state is what lines 1 to 4 of `Step` make (R176). -/
theorem exec_next {i : Instr} {s t : State} (he : exec i s = .next t) :
    ∃ h, handlerOf i = some h ∧ t = ((h s.beginStep).addCycles i.opcode).advance i.size := by
  rw [exec_eq] at he
  cases hh : handlerOf i with
  | none => rw [hh] at he; cases he
  | some h => rw [hh] at he; cases he; exact ⟨h, rfl, rfl⟩

/-- An instruction with a handler completes in every state (R176). -/
theorem exec_of_handler {i : Instr} {h : State → State} (hh : handlerOf i = some h) (s : State) :
    exec i s = .next (((h s.beginStep).addCycles i.opcode).advance i.size) := by
  rw [exec_eq, hh]; rfl

/-- An instruction without a handler raises UnimplementedOpcode in every state (R135). -/
theorem exec_of_no_handler {i : Instr} (hh : handlerOf i = none) (s : State) :
    exec i s = .fault (.unimplementedOpcode i.opcode) := by
  rw [exec_eq, hh]; rfl

/-- No instruction is refused. -/
theorem exec_ne_refused (i : Instr) (s : State) (r : Refusal) : exec i s ≠ .refused r := by
  cases hh : handlerOf i with
  | none => rw [exec_of_no_handler hh]; simp
  | some h => rw [exec_of_handler hh]; simp

/-- A branch changes at most the program counter (R101). -/
theorem branch_eq (cond : State → Bool) (rel : Byte) (s : State) :
    branch cond rel s = { s with pc := if cond s then s.pc + sext8 rel else s.pc } := by
  unfold branch; split <;> rfl

theorem branch_keeps (cond : State → Bool) (rel : Byte) (s : State) :
    (branch cond rel s).cycle = s.cycle ∧ (branch cond rel s).cart = s.cart ∧ (branch cond rel s).params = s.params := by
  rw [branch_eq]; exact ⟨rfl, rfl, rfl⟩

/-- No handler touches the cycle counter, the cartridge image or the parameters (R18, R39). -/
theorem handler_keeps_all (i : Instr) (s : State) :
    match handlerOf i with
    | some h => (h s).cycle = s.cycle ∧ (h s).cart = s.cart ∧ (h s).params = s.params
    | none => True := by
  cases i <;> first
    | exact trivial
    | exact ⟨rfl, rfl, rfl⟩
    | exact branch_keeps _ _ _

/-- No handler touches the cycle counter, the cartridge image or the parameters (R18, R39). -/
theorem handler_keeps {i : Instr} {h : State → State} (hh : handlerOf i = some h) (s : State) :
    (h s).cycle = s.cycle ∧ (h s).cart = s.cart ∧ (h s).params = s.params := by
  have := handler_keeps_all i s
  rwa [hh] at this

end Sys2Proof.Machine
end

