-- ==== Sys2Proof/Laws/Fetch.lean ====
section
/-! SUPPORT. The address translator, reads of the program space, fetch, and what a step can do (R40 to R43, R176). -/

namespace Sys2Proof.Machine

/-- The translator's formula on numbers (R40: "equivalently `-3072 + page*256 + pageRelative`"). -/
theorem translateAddress_eq (a : Addr) : translateAddress a = -3072 + ((a.toNat / 4096 : Nat) : Int) * 256 + ((a.toNat % 4096 : Nat) : Int) := by
  have := a.isLt
  simp only [translateAddress, BitVec.extractLsb'_toNat, Nat.shiftRight_eq_div_pow]
  norm_num
  omega

/-- What RomRead reads (R42). -/
theorem State.romRead_eq_some {s : State} {off : Int} {b : Byte} :
    s.romRead off = some b ↔ 0 ≤ off ∧ s.prgRom.read? off.toNat = some b := by
  unfold State.romRead
  by_cases h : off < 0
  · simp [h]
  · simp [h, Int.not_lt.1 h]

theorem State.romRead_neg {s : State} {off : Int} (h : off < 0) : s.romRead off = none := by
  simp [State.romRead, h]

/-- RomRead depends on the image alone (R30, R47). -/
theorem State.romRead_congr {s t : State} (h : t.cart = s.cart) (off : Int) : t.romRead off = s.romRead off := by
  simp [State.romRead, State.prgRom, h]

theorem State.romBytes_congr {s t : State} (h : t.cart = s.cart) (off : Int) (n : Nat) :
    t.romBytes off n = s.romBytes off n := by
  induction n generalizing off with
  | zero => rfl
  | succ n ih => simp only [State.romBytes, State.romRead_congr h, ih]

/-- Fetch depends on the image and the program counter alone (R47). -/
theorem State.fetch_congr {s t : State} (hc : t.cart = s.cart) (hp : t.pc = s.pc) : t.fetch = s.fetch := by
  simp [State.fetch, State.fetchWindow, State.romBytes_congr hc, hp]

/-- The window of a fetch, by what RomRead gives for its three bytes (R43). -/
theorem State.fetchWindow_eq (s : State) :
    s.fetchWindow =
      match s.romRead (translateAddress s.pc), s.romRead (translateAddress s.pc + 1), s.romRead (translateAddress s.pc + 2) with
      | none, _, _ => []
      | some b0, none, _ => [b0]
      | some b0, some b1, none => [b0, b1]
      | some b0, some b1, some b2 => [b0, b1, b2] := by
  simp only [State.fetchWindow, State.romBytes, Int.add_assoc, show (1 + 1 : Int) = 2 from rfl]
  cases s.romRead (translateAddress s.pc) <;> cases s.romRead (translateAddress s.pc + 1) <;>
    cases s.romRead (translateAddress s.pc + 2) <;> rfl

/-- A fetch, by what RomRead gives for its bytes and by the matrix entry of the first (R43, R53). -/
theorem State.fetch_eq (s : State) : s.fetch =
      match s.romRead (translateAddress s.pc) with
   | none => .error (.outOfRange (translateAddress s.pc))
   | some op => match formOf op with
     | .f1 i => .ok i
     | .marker i => .ok i
     | .f2 make => match s.romRead (translateAddress s.pc + 1) with
       | none => .error (.outOfRange (translateAddress s.pc + 1))
       | some b => .ok (make b)
     | .f3 make => match s.romRead (translateAddress s.pc + 1) with
       | none => .error (.outOfRange (translateAddress s.pc + 1))
       | some b => match s.romRead (translateAddress s.pc + 2) with
         | none => .error (.outOfRange (translateAddress s.pc + 2))
         | some c => .ok (make (wordOf b c)) := by
  simp only [State.fetch, State.fetchWindow_eq]
  cases s.romRead (translateAddress s.pc) with
  | none => simp [decode]
  | some op =>
    cases s.romRead (translateAddress s.pc + 1) <;> cases s.romRead (translateAddress s.pc + 2) <;>
      simp only [decode] <;> cases formOf op <;> simp

/-- A step, by its fetch (R43). -/
theorem step_eq (s : State) :
    step s = match s.fetch with
      | .ok i => exec i s
      | .error f => .fault f := by
  unfold step
  cases s.fetch <;> rfl

/-- A step that completes has fetched an instruction and executed it. -/
theorem step_next {s t : State} (h : step s = .next t) : ∃ i, s.fetch = .ok i ∧ exec i s = .next t := by
  rw [step_eq] at h
  cases hf : s.fetch with
  | ok i => rw [hf] at h; exact ⟨i, rfl, h⟩
  | error f => rw [hf] at h; cases h

/-! ### Placing an instruction -/

/-- Where `PC` is after placing an instruction. -/
theorem State.placeAtPC_pc (s : State) (bs : List Byte) :
    (s.placeAtPC bs).pc = if translateAddress s.pc < 0 then Config.resetPC else s.pc := rfl

/-- What placing an instruction leaves in the program bytes. -/
theorem State.placeAtPC_prgRom (s : State) (bs : List Byte) :
    (s.placeAtPC bs).prgRom = s.roomyImage.prgRom.patch (translateAddress (s.placeAtPC bs).pc).toNat bs := rfl

/-- Placing an instruction leaves `PC` where a fetch reads at an offset that is not negative. -/
theorem State.placeAtPC_offset (s : State) (bs : List Byte) : 0 ≤ translateAddress (s.placeAtPC bs).pc := by
  rw [State.placeAtPC_pc]
  split
  · decide
  · omega

/-- The image an instruction is placed in has room for a fetch at any offset (R41). -/
theorem State.roomyImage_size (s : State) : Config.prgUnit ≤ s.roomyImage.prgRom.size := by
  unfold State.roomyImage
  split
  · decide
  · split
    · exact Nat.le_refl _
    · omega

end Sys2Proof.Machine
end

