-- ==== Sys2Proof/Laws/Frames.lean ====
section
/-! SUPPORT. From what a step left in `P` and in memory to the frames claims are written in; and that every handler keeps
the invariant. -/

namespace Sys2Proof.Machine

/-! ### Flags and memory -/

theorem znFollow_of_setZN {v : Byte} {s t : State} (written : List Flag) (h : t.p = Machine.setZN v.toNat s.p) :
    ZNFollow v written s t := by
  refine ⟨?_, ?_, fun f hf => ?_⟩
  · simp [State.flag, h]
  · simp only [State.flag, h, flagOf_setZN, u8_toNat]
  · simp only [State.flag, h, flagOf_setZN]
    cases f <;> simp_all

theorem flagsExcept_of_eq {s t : State} (h : t.p = s.p) (written : List Flag) : FlagsExcept written s t :=
  fun f _ => by simp [State.flag, h]

theorem memoryExcept_of_eq {s t : State} (h : t.mem = s.mem) (written : List Addr) : MemoryExcept written s t :=
  fun a _ => State.memRead_congr h a

/-- After one store the byte at its address is the value stored, and every other byte is as before. -/
theorem memRead_of_write {s t : State} {b : Addr} {v : Byte} (h : t.mem = s.mem.write b.toNat v) (a : Addr) :
    t.memRead a = if a = b then v else s.memRead a := by
  rw [← State.memRead_memWrite]; exact State.memRead_congr h a

/-- After two stores: the second wins where their addresses are the same. -/
theorem memRead_of_write_write {s t : State} {b c : Addr} {v w : Byte}
    (h : t.mem = (s.mem.write b.toNat v).write c.toNat w) (a : Addr) :
    t.memRead a = if a = c then w else if a = b then v else s.memRead a := by
  rw [← State.memRead_memWrite s, ← State.memRead_memWrite]; exact State.memRead_congr h a

/-- The two cells of a return address are distinct. -/
theorem zext16_inj {a b : Byte} : zext16 a = zext16 b ↔ a = b := by
  unfold zext16
  constructor
  · intro h
    have := congrArg BitVec.toNat h
    simp only [BitVec.truncate_eq_setWidth, BitVec.toNat_setWidth] at this
    have ha := a.isLt
    have hb := b.isLt
    exact BitVec.eq_of_toNat_eq (by omega)
  · rintro rfl; rfl

/-! ### The invariant through a handler (R15, R17) -/

/-- The part of the invariant a handler can touch. -/
def HandlerInv (s : State) : Prop := s.flag .r = true ∧ s.flag .b = false ∧ s.mem.wf

theorem handlerInv_of_flags {s t : State} (h : HandlerInv s) (hr : flagOf t.p .r = flagOf s.p .r)
    (hb : flagOf t.p .b = flagOf s.p .b) (hm : t.mem = s.mem) : HandlerInv t :=
  ⟨hr.trans h.1, hb.trans h.2.1, hm ▸ h.2.2⟩

theorem handlerInv_of_store {s t : State} (h : HandlerInv s) (hp : t.p = s.p) (hm : t.mem.wf) : HandlerInv t :=
  ⟨by rw [State.flag, hp]; exact h.1, by rw [State.flag, hp]; exact h.2.1, hm⟩

theorem handlerInv_setZN {s t : State} {v : Nat} (h : HandlerInv s) (hp : t.p = Machine.setZN v s.p)
    (hm : t.mem = s.mem) : HandlerInv t :=
  handlerInv_of_flags h (by rw [hp, flagOf_setZN]) (by rw [hp, flagOf_setZN]) hm

theorem handlerInv_compare {s t : State} {r m : Byte} (h : HandlerInv s) (hp : t.p = compareFlags r m s.p)
    (hm : t.mem = s.mem) : HandlerInv t :=
  handlerInv_of_flags h (by rw [hp, flagOf_compareFlags]) (by rw [hp, flagOf_compareFlags]) hm

theorem handlerInv_pla {s : State} (h : HandlerInv s) : HandlerInv (pla s) := by
  refine handlerInv_of_flags h ?_ ?_ rfl <;>
    · show flagOf (if _ then _ else _) _ = _
      split <;> simp

theorem handlerInv_branch {s : State} (cond : State → Bool) (rel : Byte) (h : HandlerInv s) :
    HandlerInv (branch cond rel s) := by
  rw [branch_eq]; exact h

theorem handlerInv_shift {s t : State} {out : Bool} {r : Byte} (h : HandlerInv s) (hp : t.p = shiftFlags out r s.p)
    (hm : t.mem = s.mem) : HandlerInv t :=
  handlerInv_of_flags h (by rw [hp, flagOf_shiftFlags]) (by rw [hp, flagOf_shiftFlags]) hm

theorem handlerInv_adc {s : State} (o : State → Byte) (h : HandlerInv s) : HandlerInv (adc o s) :=
  handlerInv_of_flags h (flagOf_adcFlags ..) (flagOf_adcFlags ..) rfl

theorem handlerInv_bit {s : State} (a : Addr) (h : HandlerInv s) : HandlerInv (bit a s) :=
  handlerInv_of_flags h (flagOf_bitFlags ..) (flagOf_bitFlags ..) rfl

theorem handlerInv_setFlagOf {s : State} {f : Flag} (hf : f ≠ .r ∧ f ≠ .b) (h : HandlerInv s) :
    HandlerInv (setFlagOf f s) :=
  handlerInv_of_flags h (by simp [setFlagOf, hf.1.symm]) (by simp [setFlagOf, hf.2.symm]) rfl

theorem handlerInv_clearFlagOf {s : State} {f : Flag} (hf : f ≠ .r ∧ f ≠ .b) (h : HandlerInv s) :
    HandlerInv (clearFlagOf f s) :=
  handlerInv_of_flags h (by simp [clearFlagOf, hf.1.symm]) (by simp [clearFlagOf, hf.2.symm]) rfl

theorem handlerInv_plp {s : State} (h : HandlerInv s) : HandlerInv (plp s) :=
  ⟨flagOf_pulledStatus _ .r, flagOf_pulledStatus _ .b, h.2.2⟩

theorem handlerInv_lda {s : State} (o : State → Byte) (h : HandlerInv s) : HandlerInv (lda o s) :=
  handlerInv_setZN h rfl rfl

theorem handlerInv_ldx {s : State} (o : State → Byte) (h : HandlerInv s) : HandlerInv (ldx o s) :=
  handlerInv_setZN h rfl rfl

theorem handlerInv_ldy {s : State} (o : State → Byte) (h : HandlerInv s) : HandlerInv (ldy o s) :=
  handlerInv_setZN h rfl rfl

theorem handlerInv_tax {s : State} (h : HandlerInv s) : HandlerInv (tax s) :=
  handlerInv_setZN h rfl rfl

theorem handlerInv_tay {s : State} (h : HandlerInv s) : HandlerInv (tay s) :=
  handlerInv_setZN h rfl rfl

theorem handlerInv_txa {s : State} (h : HandlerInv s) : HandlerInv (txa s) :=
  handlerInv_setZN h rfl rfl

theorem handlerInv_tya {s : State} (h : HandlerInv s) : HandlerInv (tya s) :=
  handlerInv_setZN h rfl rfl

theorem handlerInv_sta {s : State} (a : Addr) (h : HandlerInv s) : HandlerInv (sta a s) :=
  handlerInv_of_store h rfl (Memory.wf_write _ _ h.2.2)

theorem handlerInv_stx {s : State} (a : Addr) (h : HandlerInv s) : HandlerInv (stx a s) :=
  handlerInv_of_store h rfl (Memory.wf_write _ _ h.2.2)

theorem handlerInv_sty {s : State} (a : Addr) (h : HandlerInv s) : HandlerInv (sty a s) :=
  handlerInv_of_store h rfl (Memory.wf_write _ _ h.2.2)

theorem handlerInv_pha {s : State} (h : HandlerInv s) : HandlerInv (pha s) :=
  handlerInv_of_store h rfl (Memory.wf_write _ _ h.2.2)

theorem handlerInv_php {s : State} (h : HandlerInv s) : HandlerInv (php s) :=
  handlerInv_of_store h rfl (Memory.wf_write _ _ h.2.2)

theorem handlerInv_cmp {s : State} (o : State → Byte) (h : HandlerInv s) : HandlerInv (cmp o s) :=
  handlerInv_compare h rfl rfl

theorem handlerInv_cpx {s : State} (o : State → Byte) (h : HandlerInv s) : HandlerInv (cpx o s) :=
  handlerInv_compare h rfl rfl

theorem handlerInv_cpy {s : State} (o : State → Byte) (h : HandlerInv s) : HandlerInv (cpy o s) :=
  handlerInv_compare h rfl rfl

theorem handlerInv_asl {s : State} (h : HandlerInv s) : HandlerInv (asl s) :=
  handlerInv_shift h rfl rfl

theorem handlerInv_lsr {s : State} (h : HandlerInv s) : HandlerInv (lsr s) :=
  handlerInv_shift h rfl rfl

theorem handlerInv_callSubroutine {s : State} (a : Addr) (h : HandlerInv s) : HandlerInv (callSubroutine a s) :=
  handlerInv_of_store h rfl (Memory.wf_write _ _ (Memory.wf_write _ _ h.2.2))

/-- Every handler keeps its part of the invariant. -/
theorem handler_keeps_inv (i : Instr) (s : State) :
    match handlerOf i with
    | some h => HandlerInv s → HandlerInv (h s)
    | none => True := by
  cases i with
  | php => exact handlerInv_php
  | aslAcc => exact handlerInv_asl
  | bpl rel => exact handlerInv_branch _ _
  | clc => exact handlerInv_clearFlagOf (by decide)
  | jsr addr => exact handlerInv_callSubroutine _
  | bitZp addr => exact handlerInv_bit _
  | plp => exact handlerInv_plp
  | bitAbs addr => exact handlerInv_bit _
  | bmi rel => exact handlerInv_branch _ _
  | sec => exact handlerInv_setFlagOf (by decide)
  | pha => exact handlerInv_pha
  | lsrAcc => exact handlerInv_lsr
  | jmpAbs addr => exact id
  | bvc rel => exact handlerInv_branch _ _
  | rts => exact id
  | adcZp addr => exact handlerInv_adc _
  | pla => exact handlerInv_pla
  | adcImm imm => exact handlerInv_adc _
  | adcAbs addr => exact handlerInv_adc _
  | bvs rel => exact handlerInv_branch _ _
  | sei => exact handlerInv_setFlagOf (by decide)
  | styZp addr => exact handlerInv_sty _
  | staZp addr => exact handlerInv_sta _
  | stxZp addr => exact handlerInv_stx _
  | txa => exact handlerInv_txa
  | styAbs addr => exact handlerInv_sty _
  | staAbs addr => exact handlerInv_sta _
  | stxAbs addr => exact handlerInv_stx _
  | bcc rel => exact handlerInv_branch _ _
  | tya => exact handlerInv_tya
  | ldyImm imm => exact handlerInv_ldy _
  | ldxImm imm => exact handlerInv_ldx _
  | ldyZp addr => exact handlerInv_ldy _
  | ldaZp addr => exact handlerInv_lda _
  | ldxZp addr => exact handlerInv_ldx _
  | tay => exact handlerInv_tay
  | ldaImm imm => exact handlerInv_lda _
  | tax => exact handlerInv_tax
  | ldyAbs addr => exact handlerInv_ldy _
  | ldaAbs addr => exact handlerInv_lda _
  | ldxAbs addr => exact handlerInv_ldx _
  | bcs rel => exact handlerInv_branch _ _
  | clv => exact handlerInv_clearFlagOf (by decide)
  | cpyImm imm => exact handlerInv_cpy _
  | cpyZp addr => exact handlerInv_cpy _
  | cmpZp addr => exact handlerInv_cmp _
  | cmpImm imm => exact handlerInv_cmp _
  | cpyAbs addr => exact handlerInv_cpy _
  | cmpAbs addr => exact handlerInv_cmp _
  | bne rel => exact handlerInv_branch _ _
  | cld => exact handlerInv_clearFlagOf (by decide)
  | cpxImm imm => exact handlerInv_cpx _
  | cpxZp addr => exact handlerInv_cpx _
  | nop => exact id
  | cpxAbs addr => exact handlerInv_cpx _
  | beq rel => exact handlerInv_branch _ _
  | sed => exact handlerInv_setFlagOf (by decide)
  | _ => exact trivial

/-! ### The flags a handler can write (R14) -/

/-- The flags an instruction's handler may change (R14); none for the unimplemented marker. -/
def flagsWritten : Instr → List Flag
  | .aslAcc => [.c, .z, .n]
  | .clc => [.c]
  | .bitZp _ => [.z, .v, .n]
  | .plp => [.c, .z, .i, .d, .b, .r, .v, .n]
  | .bitAbs _ => [.z, .v, .n]
  | .sec => [.c]
  | .lsrAcc => [.c, .z, .n]
  | .adcZp _ => [.c, .z, .v, .n]
  | .pla => [.z, .n]
  | .adcImm _ => [.c, .z, .v, .n]
  | .adcAbs _ => [.c, .z, .v, .n]
  | .sei => [.i]
  | .txa => [.z, .n]
  | .tya => [.z, .n]
  | .ldyImm _ => [.z, .n]
  | .ldxImm _ => [.z, .n]
  | .ldyZp _ => [.z, .n]
  | .ldaZp _ => [.z, .n]
  | .ldxZp _ => [.z, .n]
  | .tay => [.z, .n]
  | .ldaImm _ => [.z, .n]
  | .tax => [.z, .n]
  | .ldyAbs _ => [.z, .n]
  | .ldaAbs _ => [.z, .n]
  | .ldxAbs _ => [.z, .n]
  | .clv => [.v]
  | .cpyImm _ => [.c, .z, .n]
  | .cpyZp _ => [.c, .z, .n]
  | .cmpZp _ => [.c, .z, .n]
  | .cmpImm _ => [.c, .z, .n]
  | .cpyAbs _ => [.c, .z, .n]
  | .cmpAbs _ => [.c, .z, .n]
  | .cld => [.d]
  | .cpxImm _ => [.c, .z, .n]
  | .cpxZp _ => [.c, .z, .n]
  | .cpxAbs _ => [.c, .z, .n]
  | .sed => [.d]
  | _ => []

theorem flagsExcept_zn {s t : State} {v : Nat} (h : t.p = Machine.setZN v s.p) : FlagsExcept [.z, .n] s t := by
  intro f hf
  rw [State.flag, h, flagOf_setZN]
  cases f <;> first | rfl | exact absurd (by decide) hf

theorem flagsExcept_compare {s t : State} {r m : Byte} (h : t.p = compareFlags r m s.p) : FlagsExcept [.c, .z, .n] s t := by
  intro f hf
  rw [State.flag, h, flagOf_compareFlags]
  cases f <;> first | rfl | exact absurd (by decide) hf

theorem flagsExcept_shift {s t : State} {out : Bool} {r : Byte} (h : t.p = shiftFlags out r s.p) :
    FlagsExcept [.c, .z, .n] s t := by
  intro f hf
  rw [State.flag, h, flagOf_shiftFlags]
  cases f <;> first | rfl | exact absurd (by decide) hf

theorem flagsExcept_adc (o : State → Byte) (s : State) : FlagsExcept [.c, .z, .v, .n] s (adc o s) := by
  intro f hf
  refine (flagOf_adcFlags ..).trans ?_
  cases f <;> first | rfl | exact absurd (by decide) hf

theorem flagsExcept_bit (a : Addr) (s : State) : FlagsExcept [.z, .v, .n] s (bit a s) := by
  intro f hf
  refine (flagOf_bitFlags ..).trans ?_
  cases f <;> first | rfl | exact absurd (by decide) hf

theorem flagsExcept_set (f : Flag) (s : State) : FlagsExcept [f] s (setFlagOf f s) := by
  intro g hg
  refine (flagOf_setFlag ..).trans ?_
  simp_all [State.flag]

theorem flagsExcept_clear (f : Flag) (s : State) : FlagsExcept [f] s (clearFlagOf f s) := by
  intro g hg
  refine (flagOf_clearFlag ..).trans ?_
  simp_all [State.flag]

theorem flagsExcept_pla (s : State) : FlagsExcept [.z, .n] s (pla s) := by
  by_cases h : s.params.plaUpdatesZN = true
  · exact flagsExcept_zn (v := s.pullValue.toNat) (if_pos h)
  · exact flagsExcept_of_eq (if_neg h) _

theorem flagsExcept_branch (cond : State → Bool) (rel : Byte) (s : State) : FlagsExcept [] s (branch cond rel s) := by
  rw [branch_eq]; exact fun _ _ => rfl

/-- A handler changes no flag but those of `flagsWritten`. -/
theorem handler_flags (i : Instr) (s : State) :
    match handlerOf i with
    | some h => FlagsExcept (flagsWritten i) s (h s)
    | none => True := by
  cases i with
  | php => exact flagsExcept_of_eq rfl _
  | aslAcc => exact flagsExcept_shift rfl
  | bpl a => exact flagsExcept_branch _ _ _
  | clc => exact flagsExcept_clear _ _
  | jsr a => exact flagsExcept_of_eq rfl _
  | bitZp a => exact flagsExcept_bit _ _
  | plp => exact fun f hf => absurd (by cases f <;> decide) hf
  | bitAbs a => exact flagsExcept_bit _ _
  | bmi a => exact flagsExcept_branch _ _ _
  | sec => exact flagsExcept_set _ _
  | pha => exact flagsExcept_of_eq rfl _
  | lsrAcc => exact flagsExcept_shift rfl
  | jmpAbs a => exact flagsExcept_of_eq rfl _
  | bvc a => exact flagsExcept_branch _ _ _
  | rts => exact flagsExcept_of_eq rfl _
  | adcZp a => exact flagsExcept_adc _ _
  | pla => exact flagsExcept_pla s
  | adcImm a => exact flagsExcept_adc _ _
  | adcAbs a => exact flagsExcept_adc _ _
  | bvs a => exact flagsExcept_branch _ _ _
  | sei => exact flagsExcept_set _ _
  | styZp a => exact flagsExcept_of_eq rfl _
  | staZp a => exact flagsExcept_of_eq rfl _
  | stxZp a => exact flagsExcept_of_eq rfl _
  | txa => exact flagsExcept_zn rfl
  | styAbs a => exact flagsExcept_of_eq rfl _
  | staAbs a => exact flagsExcept_of_eq rfl _
  | stxAbs a => exact flagsExcept_of_eq rfl _
  | bcc a => exact flagsExcept_branch _ _ _
  | tya => exact flagsExcept_zn rfl
  | ldyImm a => exact flagsExcept_zn rfl
  | ldxImm a => exact flagsExcept_zn rfl
  | ldyZp a => exact flagsExcept_zn rfl
  | ldaZp a => exact flagsExcept_zn rfl
  | ldxZp a => exact flagsExcept_zn rfl
  | tay => exact flagsExcept_zn rfl
  | ldaImm a => exact flagsExcept_zn rfl
  | tax => exact flagsExcept_zn rfl
  | ldyAbs a => exact flagsExcept_zn rfl
  | ldaAbs a => exact flagsExcept_zn rfl
  | ldxAbs a => exact flagsExcept_zn rfl
  | bcs a => exact flagsExcept_branch _ _ _
  | clv => exact flagsExcept_clear _ _
  | cpyImm a => exact flagsExcept_compare (m := operandImm a s) rfl
  | cpyZp a => exact flagsExcept_compare (m := operandZp a s) rfl
  | cmpZp a => exact flagsExcept_compare (m := operandZp a s) rfl
  | cmpImm a => exact flagsExcept_compare (m := operandImm a s) rfl
  | cpyAbs a => exact flagsExcept_compare (m := operandAbs a s) rfl
  | cmpAbs a => exact flagsExcept_compare (m := operandAbs a s) rfl
  | bne a => exact flagsExcept_branch _ _ _
  | cld => exact flagsExcept_clear _ _
  | cpxImm a => exact flagsExcept_compare (m := operandImm a s) rfl
  | cpxZp a => exact flagsExcept_compare (m := operandZp a s) rfl
  | nop => exact flagsExcept_of_eq rfl _
  | cpxAbs a => exact flagsExcept_compare (m := operandAbs a s) rfl
  | beq a => exact flagsExcept_branch _ _ _
  | sed => exact flagsExcept_set _ _
  | _ => exact trivial

/-- A completed instruction changes no flag but those of `flagsWritten`. -/
theorem exec_flags {i : Instr} {s t : State} (he : exec i s = .next t) : FlagsExcept (flagsWritten i) s t := by
  obtain ⟨h, hh, rfl⟩ := exec_next he
  have := handler_flags i s.beginStep
  rw [hh] at this
  intro f hf
  simpa [State.flag] using this f hf

/-- A completed instruction keeps the handler's part of the invariant. -/
theorem exec_handlerInv {i : Instr} {s t : State} (he : exec i s = .next t) (hi : HandlerInv s) : HandlerInv t := by
  obtain ⟨h, hh, rfl⟩ := exec_next he
  have := handler_keeps_inv i s.beginStep
  rw [hh] at this
  simpa [HandlerInv, State.flag] using this hi

end Sys2Proof.Machine
end

