-- ==== Sys2Proof/Laws/HostOps.lean ====
section
/-! SUPPORT. What the host reads at each port, and that the value `pc_set` has between operations shows nowhere (R19, R28):
no port reads it, and no execution depends on it. -/

namespace Sys2Proof.Machine

/-! ### The read ports (R28) -/

@[simp] theorem hostRead_a (s : State) : hostRead .a s = s.a.toNat := rfl
@[simp] theorem hostRead_x (s : State) : hostRead .x s = s.x.toNat := rfl
@[simp] theorem hostRead_y (s : State) : hostRead .y s = s.y.toNat := rfl
@[simp] theorem hostRead_p (s : State) : hostRead .p s = s.p.toNat := rfl
@[simp] theorem hostRead_sp (s : State) : hostRead .sp s = s.sp.toNat := rfl
@[simp] theorem hostRead_pc (s : State) : hostRead .pc s = s.pc.toNat := rfl
@[simp] theorem hostRead_cycle (s : State) : hostRead .cycle s = s.cycle := rfl
@[simp] theorem hostRead_memory (addr : Addr) (s : State) : hostRead (.memory addr) s = (s.memRead addr).toNat := rfl

/-- The ports together say each element R28 names, and nothing else: equal reads are equal elements. -/
theorem hostRead_eq_iff (s t : State) :
    (∀ port, hostRead port s = hostRead port t) ↔
      s.a = t.a ∧ s.x = t.x ∧ s.y = t.y ∧ s.p = t.p ∧ s.sp = t.sp ∧ s.pc = t.pc ∧ s.cycle = t.cycle ∧
        ∀ addr, s.memRead addr = t.memRead addr := by
  constructor
  · intro h
    exact ⟨BitVec.eq_of_toNat_eq (h .a), BitVec.eq_of_toNat_eq (h .x), BitVec.eq_of_toNat_eq (h .y),
      BitVec.eq_of_toNat_eq (h .p), BitVec.eq_of_toNat_eq (h .sp), BitVec.eq_of_toNat_eq (h .pc), h .cycle,
      fun addr => BitVec.eq_of_toNat_eq (h (.memory addr))⟩
  · rintro ⟨ha, hx, hy, hp, hsp, hpc, hc, hm⟩ port
    cases port <;> simp [*]

/-! ### `pc_set` between operations (R19) -/

theorem hostRead_pcSet (port : HostPort) (s : State) (b : Bool) : hostRead port { s with pcSet := b } = hostRead port s := by
  cases port <;> rfl

/-- `Step` clears `pc_set` before anything reads it (R176 line 1). -/
theorem exec_pcSet (i : Instr) (s : State) (b : Bool) : exec i { s with pcSet := b } = exec i s := by
  rw [exec_eq, exec_eq]
  cases handlerOf i <;> rfl

theorem step_pcSet (s : State) (b : Bool) : step { s with pcSet := b } = step s := by
  have hf : State.fetch { s with pcSet := b } = s.fetch := State.fetch_congr rfl rfl
  rw [step_eq, step_eq, hf]
  cases s.fetch with
  | ok i => exact exec_pcSet i s b
  | error f => rfl

/-! ### Runs (R190) -/

@[simp] theorem hostRuns_nil (s : State) : hostRuns [] s = s := rfl

@[simp] theorem hostRuns_cons (op : HostOp) (ops : List HostOp) (s : State) :
    hostRuns (op :: ops) s = hostRuns ops (hostRun op s) := rfl

end Sys2Proof.Machine
end

