-- ==== Sys2Proof/Tests/Slice0.lean ====
section
/-! SUPPORT. The model's own tests. Every expected value comes from the spec: the encodings of 30_encoding.md, the vectors
of 95_test_vectors.md (the number in a test's name is the vector's), the rules named. At the end, one witness for every
statement that has hypotheses. -/

open Sys2Proof Sys2Proof.Machine Sys2Proof.Claims

namespace Sys2Proof.Tests

/-! ### Helpers -/

/-- The operation goes on to exactly this state. -/
def goesTo (r : Result) (t : State) : Bool :=
  match r with
  | .next u => decide (u = t)
  | _ => false

/-- The operation raises exactly this fault. -/
def faultsWith (r : Result) (f : Fault) : Bool :=
  match r with
  | .fault g => decide (g = f)
  | _ => false

/-- The operation is refused for this reason. -/
def refusedWith (r : Result) (f : Refusal) : Bool :=
  match r with
  | .refused g => decide (g = f)
  | _ => false

/-- The fetch answers this descriptor. -/
def fetches (s : State) (d : Descriptor) : Bool :=
  match s.fetchDecode with
  | .ok e => decide (e = d)
  | .error _ => false

/-- The reset state at program counter `pc` with these bytes as its whole PRG-ROM. -/
def withRom (pc : Addr) (bytes : List Byte) : State :=
  { State.reset with pc := pc, cart := some { blankImage with prgRom := Region.ofBytes bytes } }

/-- A header `H(p, c, f6)` as 95_test_vectors.md writes it (R36). -/
def header (p c f6 : Byte) : List Byte := [0x4E, 0x45, 0x53, 0x1A, p, c, f6, 0, 0, 0, 0, 0, 0, 0, 0, 0]

/-! ### Well-formed descriptors (R27): each check refuses an ill-formed one -/

/-- An opcode that is not a byte. -/
theorem test_illformed_opcode :
    refusedWith (stepDescriptor ⟨256, 1, [], 0⟩ State.reset) .malformedDescriptor = true := by decide

/-- LDA #imm with size 3: the table says 2. -/
theorem test_illformed_size :
    refusedWith (stepDescriptor ⟨0xA9, 3, [0x00], 0⟩ State.reset) .malformedDescriptor = true := by decide

/-- LDA #imm with two operand bytes. -/
theorem test_illformed_operand_count :
    refusedWith (stepDescriptor ⟨0xA9, 2, [0x00, 0x00], 0⟩ State.reset) .malformedDescriptor = true := by decide

/-- LDA #imm with a value that does not fit one byte. -/
theorem test_illformed_value :
    refusedWith (stepDescriptor ⟨0xA9, 2, [0x00], 256⟩ State.reset) .malformedDescriptor = true := by decide

/-- NOP with a value: it must be 0. -/
theorem test_illformed_value_of_one_byte_form :
    refusedWith (stepDescriptor ⟨0xEA, 1, [], 1⟩ State.reset) .malformedDescriptor = true := by decide

/-- For an unimplemented opcode any other field is accepted (decision D17). -/
theorem test_marker_accepts_any_field :
    faultsWith (stepDescriptor ⟨0x29, 7, [0x01], 999⟩ State.reset) (.unimplementedOpcode 0x29) = true := by decide

/-! ### Decoding: every opcode byte written bit by bit, with the operand bytes 0xA5 and 0x1E after it (R50, R53, R54) -/

theorem test_decode_row0 :
    ([(0b00000000, .brk, [0xA5, 0x1E]), (0b00000001, .oraIndX, [0xA5, 0x1E]),
      (0b00000010, .unoff02, [0xA5, 0x1E]), (0b00000011, .unoff03, [0xA5, 0x1E]),
      (0b00000100, .unoff04, [0xA5, 0x1E]), (0b00000101, .oraZp, [0xA5, 0x1E]),
      (0b00000110, .aslZp, [0xA5, 0x1E]), (0b00000111, .unoff07, [0xA5, 0x1E]),
      (0b00001000, .php, [0xA5, 0x1E]), (0b00001001, .oraImm, [0xA5, 0x1E]),
      (0b00001010, .aslAcc, [0xA5, 0x1E]), (0b00001011, .unoff0B, [0xA5, 0x1E]),
      (0b00001100, .unoff0C, [0xA5, 0x1E]), (0b00001101, .oraAbs, [0xA5, 0x1E]),
      (0b00001110, .aslAbs, [0xA5, 0x1E]), (0b00001111, .unoff0F, [0xA5, 0x1E])]
      : List (Byte × Instr × List Byte)).all
      (fun e => decide (decode [e.1, 0xA5, 0x1E] = .ok e.2.1 e.2.2)) = true := by decide

theorem test_decode_row1 :
    ([(0b00010000, (.bpl 0xA5), [0x1E]), (0b00010001, .oraIndY, [0xA5, 0x1E]),
      (0b00010010, .unoff12, [0xA5, 0x1E]), (0b00010011, .unoff13, [0xA5, 0x1E]),
      (0b00010100, .unoff14, [0xA5, 0x1E]), (0b00010101, .oraZpX, [0xA5, 0x1E]),
      (0b00010110, .aslZpX, [0xA5, 0x1E]), (0b00010111, .unoff17, [0xA5, 0x1E]),
      (0b00011000, .clc, [0xA5, 0x1E]), (0b00011001, .oraAbsY, [0xA5, 0x1E]),
      (0b00011010, .unoff1A, [0xA5, 0x1E]), (0b00011011, .unoff1B, [0xA5, 0x1E]),
      (0b00011100, .unoff1C, [0xA5, 0x1E]), (0b00011101, .oraAbsX, [0xA5, 0x1E]),
      (0b00011110, .aslAbsX, [0xA5, 0x1E]), (0b00011111, .unoff1F, [0xA5, 0x1E])]
      : List (Byte × Instr × List Byte)).all
      (fun e => decide (decode [e.1, 0xA5, 0x1E] = .ok e.2.1 e.2.2)) = true := by decide

theorem test_decode_row2 :
    ([(0b00100000, (.jsr 0x1EA5), []), (0b00100001, .andIndX, [0xA5, 0x1E]),
      (0b00100010, .unoff22, [0xA5, 0x1E]), (0b00100011, .unoff23, [0xA5, 0x1E]),
      (0b00100100, (.bitZp 0xA5), [0x1E]), (0b00100101, .andZp, [0xA5, 0x1E]),
      (0b00100110, .rolZp, [0xA5, 0x1E]), (0b00100111, .unoff27, [0xA5, 0x1E]),
      (0b00101000, .plp, [0xA5, 0x1E]), (0b00101001, .andImm, [0xA5, 0x1E]),
      (0b00101010, .rolAcc, [0xA5, 0x1E]), (0b00101011, .unoff2B, [0xA5, 0x1E]),
      (0b00101100, (.bitAbs 0x1EA5), []), (0b00101101, .andAbs, [0xA5, 0x1E]),
      (0b00101110, .rolAbs, [0xA5, 0x1E]), (0b00101111, .unoff2F, [0xA5, 0x1E])]
      : List (Byte × Instr × List Byte)).all
      (fun e => decide (decode [e.1, 0xA5, 0x1E] = .ok e.2.1 e.2.2)) = true := by decide

theorem test_decode_row3 :
    ([(0b00110000, (.bmi 0xA5), [0x1E]), (0b00110001, .andIndY, [0xA5, 0x1E]),
      (0b00110010, .unoff32, [0xA5, 0x1E]), (0b00110011, .unoff33, [0xA5, 0x1E]),
      (0b00110100, .unoff34, [0xA5, 0x1E]), (0b00110101, .andZpX, [0xA5, 0x1E]),
      (0b00110110, .rolZpX, [0xA5, 0x1E]), (0b00110111, .unoff37, [0xA5, 0x1E]),
      (0b00111000, .sec, [0xA5, 0x1E]), (0b00111001, .andAbsY, [0xA5, 0x1E]),
      (0b00111010, .unoff3A, [0xA5, 0x1E]), (0b00111011, .unoff3B, [0xA5, 0x1E]),
      (0b00111100, .unoff3C, [0xA5, 0x1E]), (0b00111101, .andAbsX, [0xA5, 0x1E]),
      (0b00111110, .rolAbsX, [0xA5, 0x1E]), (0b00111111, .unoff3F, [0xA5, 0x1E])]
      : List (Byte × Instr × List Byte)).all
      (fun e => decide (decode [e.1, 0xA5, 0x1E] = .ok e.2.1 e.2.2)) = true := by decide

theorem test_decode_row4 :
    ([(0b01000000, .rti, [0xA5, 0x1E]), (0b01000001, .eorIndX, [0xA5, 0x1E]),
      (0b01000010, .unoff42, [0xA5, 0x1E]), (0b01000011, .unoff43, [0xA5, 0x1E]),
      (0b01000100, .unoff44, [0xA5, 0x1E]), (0b01000101, .eorZp, [0xA5, 0x1E]),
      (0b01000110, .lsrZp, [0xA5, 0x1E]), (0b01000111, .unoff47, [0xA5, 0x1E]),
      (0b01001000, .pha, [0xA5, 0x1E]), (0b01001001, .eorImm, [0xA5, 0x1E]),
      (0b01001010, .lsrAcc, [0xA5, 0x1E]), (0b01001011, .unoff4B, [0xA5, 0x1E]),
      (0b01001100, (.jmpAbs 0x1EA5), []), (0b01001101, .eorAbs, [0xA5, 0x1E]),
      (0b01001110, .lsrAbs, [0xA5, 0x1E]), (0b01001111, .unoff4F, [0xA5, 0x1E])]
      : List (Byte × Instr × List Byte)).all
      (fun e => decide (decode [e.1, 0xA5, 0x1E] = .ok e.2.1 e.2.2)) = true := by decide

theorem test_decode_row5 :
    ([(0b01010000, (.bvc 0xA5), [0x1E]), (0b01010001, .eorIndY, [0xA5, 0x1E]),
      (0b01010010, .unoff52, [0xA5, 0x1E]), (0b01010011, .unoff53, [0xA5, 0x1E]),
      (0b01010100, .unoff54, [0xA5, 0x1E]), (0b01010101, .eorZpX, [0xA5, 0x1E]),
      (0b01010110, .lsrZpX, [0xA5, 0x1E]), (0b01010111, .unoff57, [0xA5, 0x1E]),
      (0b01011000, .cli, [0xA5, 0x1E]), (0b01011001, .eorAbsY, [0xA5, 0x1E]),
      (0b01011010, .unoff5A, [0xA5, 0x1E]), (0b01011011, .unoff5B, [0xA5, 0x1E]),
      (0b01011100, .unoff5C, [0xA5, 0x1E]), (0b01011101, .eorAbsX, [0xA5, 0x1E]),
      (0b01011110, .lsrAbsX, [0xA5, 0x1E]), (0b01011111, .unoff5F, [0xA5, 0x1E])]
      : List (Byte × Instr × List Byte)).all
      (fun e => decide (decode [e.1, 0xA5, 0x1E] = .ok e.2.1 e.2.2)) = true := by decide

theorem test_decode_row6 :
    ([(0b01100000, .rts, [0xA5, 0x1E]), (0b01100001, .adcIndX, [0xA5, 0x1E]),
      (0b01100010, .unoff62, [0xA5, 0x1E]), (0b01100011, .unoff63, [0xA5, 0x1E]),
      (0b01100100, .unoff64, [0xA5, 0x1E]), (0b01100101, (.adcZp 0xA5), [0x1E]),
      (0b01100110, .rorZp, [0xA5, 0x1E]), (0b01100111, .unoff67, [0xA5, 0x1E]),
      (0b01101000, .pla, [0xA5, 0x1E]), (0b01101001, (.adcImm 0xA5), [0x1E]),
      (0b01101010, .rorAcc, [0xA5, 0x1E]), (0b01101011, .unoff6B, [0xA5, 0x1E]),
      (0b01101100, .jmpInd, [0xA5, 0x1E]), (0b01101101, (.adcAbs 0x1EA5), []),
      (0b01101110, .rorAbs, [0xA5, 0x1E]), (0b01101111, .unoff6F, [0xA5, 0x1E])]
      : List (Byte × Instr × List Byte)).all
      (fun e => decide (decode [e.1, 0xA5, 0x1E] = .ok e.2.1 e.2.2)) = true := by decide

theorem test_decode_row7 :
    ([(0b01110000, (.bvs 0xA5), [0x1E]), (0b01110001, .adcIndY, [0xA5, 0x1E]),
      (0b01110010, .unoff72, [0xA5, 0x1E]), (0b01110011, .unoff73, [0xA5, 0x1E]),
      (0b01110100, .unoff74, [0xA5, 0x1E]), (0b01110101, .adcZpX, [0xA5, 0x1E]),
      (0b01110110, .rorZpX, [0xA5, 0x1E]), (0b01110111, .unoff77, [0xA5, 0x1E]),
      (0b01111000, .sei, [0xA5, 0x1E]), (0b01111001, .adcAbsY, [0xA5, 0x1E]),
      (0b01111010, .unoff7A, [0xA5, 0x1E]), (0b01111011, .unoff7B, [0xA5, 0x1E]),
      (0b01111100, .unoff7C, [0xA5, 0x1E]), (0b01111101, .adcAbsX, [0xA5, 0x1E]),
      (0b01111110, .rorAbsX, [0xA5, 0x1E]), (0b01111111, .unoff7F, [0xA5, 0x1E])]
      : List (Byte × Instr × List Byte)).all
      (fun e => decide (decode [e.1, 0xA5, 0x1E] = .ok e.2.1 e.2.2)) = true := by decide

theorem test_decode_row8 :
    ([(0b10000000, .unoff80, [0xA5, 0x1E]), (0b10000001, .staIndX, [0xA5, 0x1E]),
      (0b10000010, .unoff82, [0xA5, 0x1E]), (0b10000011, .unoff83, [0xA5, 0x1E]),
      (0b10000100, (.styZp 0xA5), [0x1E]), (0b10000101, (.staZp 0xA5), [0x1E]),
      (0b10000110, (.stxZp 0xA5), [0x1E]), (0b10000111, .unoff87, [0xA5, 0x1E]),
      (0b10001000, .dey, [0xA5, 0x1E]), (0b10001001, .unoff89, [0xA5, 0x1E]),
      (0b10001010, .txa, [0xA5, 0x1E]), (0b10001011, .unoff8B, [0xA5, 0x1E]),
      (0b10001100, (.styAbs 0x1EA5), []), (0b10001101, (.staAbs 0x1EA5), []),
      (0b10001110, (.stxAbs 0x1EA5), []), (0b10001111, .unoff8F, [0xA5, 0x1E])]
      : List (Byte × Instr × List Byte)).all
      (fun e => decide (decode [e.1, 0xA5, 0x1E] = .ok e.2.1 e.2.2)) = true := by decide

theorem test_decode_row9 :
    ([(0b10010000, (.bcc 0xA5), [0x1E]), (0b10010001, .staIndY, [0xA5, 0x1E]),
      (0b10010010, .unoff92, [0xA5, 0x1E]), (0b10010011, .unoff93, [0xA5, 0x1E]),
      (0b10010100, .styZpX, [0xA5, 0x1E]), (0b10010101, .staZpX, [0xA5, 0x1E]),
      (0b10010110, .stxZpY, [0xA5, 0x1E]), (0b10010111, .unoff97, [0xA5, 0x1E]),
      (0b10011000, .tya, [0xA5, 0x1E]), (0b10011001, .staAbsY, [0xA5, 0x1E]),
      (0b10011010, .txs, [0xA5, 0x1E]), (0b10011011, .unoff9B, [0xA5, 0x1E]),
      (0b10011100, .unoff9C, [0xA5, 0x1E]), (0b10011101, .staAbsX, [0xA5, 0x1E]),
      (0b10011110, .unoff9E, [0xA5, 0x1E]), (0b10011111, .unoff9F, [0xA5, 0x1E])]
      : List (Byte × Instr × List Byte)).all
      (fun e => decide (decode [e.1, 0xA5, 0x1E] = .ok e.2.1 e.2.2)) = true := by decide

theorem test_decode_rowA :
    ([(0b10100000, (.ldyImm 0xA5), [0x1E]), (0b10100001, .ldaIndX, [0xA5, 0x1E]),
      (0b10100010, (.ldxImm 0xA5), [0x1E]), (0b10100011, .unoffA3, [0xA5, 0x1E]),
      (0b10100100, (.ldyZp 0xA5), [0x1E]), (0b10100101, (.ldaZp 0xA5), [0x1E]),
      (0b10100110, (.ldxZp 0xA5), [0x1E]), (0b10100111, .unoffA7, [0xA5, 0x1E]),
      (0b10101000, .tay, [0xA5, 0x1E]), (0b10101001, (.ldaImm 0xA5), [0x1E]),
      (0b10101010, .tax, [0xA5, 0x1E]), (0b10101011, .unoffAB, [0xA5, 0x1E]),
      (0b10101100, (.ldyAbs 0x1EA5), []), (0b10101101, (.ldaAbs 0x1EA5), []),
      (0b10101110, (.ldxAbs 0x1EA5), []), (0b10101111, .unoffAF, [0xA5, 0x1E])]
      : List (Byte × Instr × List Byte)).all
      (fun e => decide (decode [e.1, 0xA5, 0x1E] = .ok e.2.1 e.2.2)) = true := by decide

theorem test_decode_rowB :
    ([(0b10110000, (.bcs 0xA5), [0x1E]), (0b10110001, .ldaIndY, [0xA5, 0x1E]),
      (0b10110010, .unoffB2, [0xA5, 0x1E]), (0b10110011, .unoffB3, [0xA5, 0x1E]),
      (0b10110100, .ldyZpX, [0xA5, 0x1E]), (0b10110101, .ldaZpX, [0xA5, 0x1E]),
      (0b10110110, .ldxZpY, [0xA5, 0x1E]), (0b10110111, .unoffB7, [0xA5, 0x1E]),
      (0b10111000, .clv, [0xA5, 0x1E]), (0b10111001, .ldaAbsY, [0xA5, 0x1E]),
      (0b10111010, .tsx, [0xA5, 0x1E]), (0b10111011, .unoffBB, [0xA5, 0x1E]),
      (0b10111100, .ldyAbsX, [0xA5, 0x1E]), (0b10111101, .ldaAbsX, [0xA5, 0x1E]),
      (0b10111110, .ldxAbsY, [0xA5, 0x1E]), (0b10111111, .unoffBF, [0xA5, 0x1E])]
      : List (Byte × Instr × List Byte)).all
      (fun e => decide (decode [e.1, 0xA5, 0x1E] = .ok e.2.1 e.2.2)) = true := by decide

theorem test_decode_rowC :
    ([(0b11000000, (.cpyImm 0xA5), [0x1E]), (0b11000001, .cmpIndX, [0xA5, 0x1E]),
      (0b11000010, .unoffC2, [0xA5, 0x1E]), (0b11000011, .unoffC3, [0xA5, 0x1E]),
      (0b11000100, (.cpyZp 0xA5), [0x1E]), (0b11000101, (.cmpZp 0xA5), [0x1E]),
      (0b11000110, .decZp, [0xA5, 0x1E]), (0b11000111, .unoffC7, [0xA5, 0x1E]),
      (0b11001000, .iny, [0xA5, 0x1E]), (0b11001001, (.cmpImm 0xA5), [0x1E]),
      (0b11001010, .dex, [0xA5, 0x1E]), (0b11001011, .unoffCB, [0xA5, 0x1E]),
      (0b11001100, (.cpyAbs 0x1EA5), []), (0b11001101, (.cmpAbs 0x1EA5), []),
      (0b11001110, .decAbs, [0xA5, 0x1E]), (0b11001111, .unoffCF, [0xA5, 0x1E])]
      : List (Byte × Instr × List Byte)).all
      (fun e => decide (decode [e.1, 0xA5, 0x1E] = .ok e.2.1 e.2.2)) = true := by decide

theorem test_decode_rowD :
    ([(0b11010000, (.bne 0xA5), [0x1E]), (0b11010001, .cmpIndY, [0xA5, 0x1E]),
      (0b11010010, .unoffD2, [0xA5, 0x1E]), (0b11010011, .unoffD3, [0xA5, 0x1E]),
      (0b11010100, .unoffD4, [0xA5, 0x1E]), (0b11010101, .cmpZpX, [0xA5, 0x1E]),
      (0b11010110, .decZpX, [0xA5, 0x1E]), (0b11010111, .unoffD7, [0xA5, 0x1E]),
      (0b11011000, .cld, [0xA5, 0x1E]), (0b11011001, .cmpAbsY, [0xA5, 0x1E]),
      (0b11011010, .unoffDA, [0xA5, 0x1E]), (0b11011011, .unoffDB, [0xA5, 0x1E]),
      (0b11011100, .unoffDC, [0xA5, 0x1E]), (0b11011101, .cmpAbsX, [0xA5, 0x1E]),
      (0b11011110, .decAbsX, [0xA5, 0x1E]), (0b11011111, .unoffDF, [0xA5, 0x1E])]
      : List (Byte × Instr × List Byte)).all
      (fun e => decide (decode [e.1, 0xA5, 0x1E] = .ok e.2.1 e.2.2)) = true := by decide

theorem test_decode_rowE :
    ([(0b11100000, (.cpxImm 0xA5), [0x1E]), (0b11100001, .sbcIndX, [0xA5, 0x1E]),
      (0b11100010, .unoffE2, [0xA5, 0x1E]), (0b11100011, .unoffE3, [0xA5, 0x1E]),
      (0b11100100, (.cpxZp 0xA5), [0x1E]), (0b11100101, .sbcZp, [0xA5, 0x1E]),
      (0b11100110, .incZp, [0xA5, 0x1E]), (0b11100111, .unoffE7, [0xA5, 0x1E]),
      (0b11101000, .inx, [0xA5, 0x1E]), (0b11101001, .sbcImm, [0xA5, 0x1E]),
      (0b11101010, .nop, [0xA5, 0x1E]), (0b11101011, .unoffEB, [0xA5, 0x1E]),
      (0b11101100, (.cpxAbs 0x1EA5), []), (0b11101101, .sbcAbs, [0xA5, 0x1E]),
      (0b11101110, .incAbs, [0xA5, 0x1E]), (0b11101111, .unoffEF, [0xA5, 0x1E])]
      : List (Byte × Instr × List Byte)).all
      (fun e => decide (decode [e.1, 0xA5, 0x1E] = .ok e.2.1 e.2.2)) = true := by decide

theorem test_decode_rowF :
    ([(0b11110000, (.beq 0xA5), [0x1E]), (0b11110001, .sbcIndY, [0xA5, 0x1E]),
      (0b11110010, .unoffF2, [0xA5, 0x1E]), (0b11110011, .unoffF3, [0xA5, 0x1E]),
      (0b11110100, .unoffF4, [0xA5, 0x1E]), (0b11110101, .sbcZpX, [0xA5, 0x1E]),
      (0b11110110, .incZpX, [0xA5, 0x1E]), (0b11110111, .unoffF7, [0xA5, 0x1E]),
      (0b11111000, .sed, [0xA5, 0x1E]), (0b11111001, .sbcAbsY, [0xA5, 0x1E]),
      (0b11111010, .unoffFA, [0xA5, 0x1E]), (0b11111011, .unoffFB, [0xA5, 0x1E]),
      (0b11111100, .unoffFC, [0xA5, 0x1E]), (0b11111101, .sbcAbsX, [0xA5, 0x1E]),
      (0b11111110, .incAbsX, [0xA5, 0x1E]), (0b11111111, .unoffFF, [0xA5, 0x1E])]
      : List (Byte × Instr × List Byte)).all
      (fun e => decide (decode [e.1, 0xA5, 0x1E] = .ok e.2.1 e.2.2)) = true := by decide

/-- A sequence too short for its opcode names the byte that is missing (R43). -/
theorem test_decode_truncated :
    (decide (decode [] = .truncated 0) && decide (decode [0xA9] = .truncated 1) && decide (decode [0x4C] = .truncated 1) &&
      decide (decode [0x4C, 0x00] = .truncated 2)) = true := by decide

/-- The words as the opcode table numbers their bits: `C5F5` is the operand of the second and third bytes. -/
theorem test_table_word :
    (decide (decodeTableWord 24 0xC5F54C = some (.jmpAbs 0xC5F5)) && decide (decodeTableWord 16 0x05A9 = some (.ldaImm 0x05)) &&
      decide (decodeTableWord 8 0xEA = some .nop)) = true := by decide

/-- A placed word is what the next step runs (V90 on the ROM-driven path). -/
theorem test_placed_word :
    (match step (State.reset.withFetchWord 24 0xC5F54C) with
      | .next t => t.pc == 0xC5F5 && t.cycle == 3
      | _ => false) = true := by decide

/-! ### Translate, RomRead, FetchDecode (R40 to R43; section 4 of 95_test_vectors.md) -/

theorem test_translate :
    ([(0xC000, 0), (0xC001, 1), (0xC0FF, 255), (0xCFFF, 4095), (0xD000, 256), (0xE100, 768),
      (0xFFFF, 4863), (0xBFFF, 3839), (0xB100, 0), (0xB0FF, -1), (0x0200, -2560), (0x0000, -3072)] : List (Addr × Int)).all
      (fun e => decide (translateAddress e.1 = e.2)) = true := by decide

theorem test_F1_no_image : faultsWith (step State.reset) (.outOfRange 0) = true := by decide

theorem test_F2_zero_byte : faultsWith (step (withRom 0xC000 [0x00])) (.unimplementedOpcode 0x00) = true := by decide

theorem test_F4_negative_offset : faultsWith (step (withRom 0xB0FF [0x00])) (.outOfRange (-1)) = true := by decide

theorem test_F5_low_page : faultsWith (step (withRom 0x0C00 [0x00])) (.unimplementedOpcode 0x00) = true := by decide

/-- ROM Q at PC 0xCFFF: the operand bytes come from the offsets 4096 and 4097. -/
theorem test_F6_operand_offsets :
    fetches (State.placeAtPC { State.reset with pc := 0xCFFF } [0xAD, 0x34, 0x12]) ⟨0xAD, 3, [0x34, 0x12], 0x1234⟩ = true := by
  decide

theorem test_F7_page_crossing_step :
    (match step (State.placeAtPC { State.reset with pc := 0xCFFF, mem := [(0x1234, 0x99)] } [0xAD, 0x34, 0x12]) with
      | .next t => t.a == 0x99 && t.p == 0xA4 && t.pc == 0xD002 && t.cycle == 4
      | _ => false) = true := by decide

theorem test_F9_to_F13_descriptors :
    (fetches (withRom 0xC000 [0xA9, 0x05]) ⟨0xA9, 2, [0x05], 0x05⟩ &&
      fetches (withRom 0xC000 [0x8D, 0x00, 0x02]) ⟨0x8D, 3, [0x00, 0x02], 0x0200⟩ &&
      fetches (withRom 0xC000 [0x90, 0xFC]) ⟨0x90, 2, [0xFC], 0xFC⟩ &&
      fetches (withRom 0xC000 [0xEA]) ⟨0xEA, 1, [], 0⟩ &&
      fetches (withRom 0xC000 [0x4C, 0xF5, 0xC5]) ⟨0x4C, 3, [0xF5, 0xC5], 0xC5F5⟩) = true := by decide

theorem test_F14_operand_not_read : faultsWith (step (withRom 0xC000 [0xB5])) (.unimplementedOpcode 0xB5) = true := by decide

/-- The first missing byte is named (R165). -/
theorem test_operand_out_of_range :
    (faultsWith (step (withRom 0xC000 [0xA9])) (.outOfRange 1) && faultsWith (step (withRom 0xC000 [0xAD, 0x00])) (.outOfRange 2))
      = true := by decide

/-! ### Load (R36 to R38) -/

theorem test_L1_bad_magic :
    faultsWith (load ([0x4E, 0x45, 0x53, 0x1B] ++ (header 1 1 0).drop 4) State.reset) .formatError = true := by decide

theorem test_L3_short_header : faultsWith (load ((header 1 1 0).take 15) State.reset) .formatError = true := by decide

theorem test_L6_short_body :
    faultsWith (load (header 0 0 0x04 ++ List.replicate 511 0x00) State.reset) .formatError = true := by
  set_option maxRecDepth 4000 in decide

theorem test_L7_header_alone :
    goesTo (load (header 0 0 0) State.reset)
      { State.reset with cart := some {
          header := #v[0x4E, 0x45, 0x53, 0x1A, 0, 0, 0, 0, 0, 0, 0, 0, 0, 0, 0, 0], trainer := none,
          prgRom := Region.empty, chrRom := Region.empty } } = true := by decide

/-! ### The host's reads (R28) -/

/-- Reset as the host reads it (R25), and a memory cell. -/
theorem test_host_reads_reset :
    ([HostPort.pc, .a, .x, .y, .sp, .p, .cycle, .memory 0xFFFF].map fun port => hostRead port State.reset) =
      [0xC000, 0x00, 0x00, 0x00, 0xFD, 0x24, 0, 0x00] := by decide

/-- PHA from reset with A = 0x7F (V102): the host reads SP and the pushed cell; before any Load there is no image. -/
theorem test_host_reads_push :
    (match hostStep (.step ⟨0x48, 1, [], 0⟩) { State.reset with a := 0x7F } with
      | .next t => hostRead .sp t == 0xFC && hostRead (.memory 0x00FC) t == 0x7F && (hostImage t).isNone
      | _ => false) = true := by decide

/-! ### One step (section 3 of 95_test_vectors.md, on the descriptor path) -/

theorem test_V2_lda :
    goesTo (stepDescriptor ⟨0xA9, 2, [0x80], 0x80⟩
    State.reset)
    { State.reset with a := 0x80, p := 0xA4, pc := 0xC002, cycle := 2 } = true := by decide

theorem test_V3_lda :
    goesTo (stepDescriptor ⟨0xA9, 2, [0x7F], 0x7F⟩
    { State.reset with p := 0xA6 })
    { State.reset with p := 0x24, a := 0x7F, pc := 0xC002, cycle := 2 } = true := by decide

theorem test_V4_lda :
    goesTo (stepDescriptor ⟨0xA5, 2, [0x10], 0x10⟩
    { State.reset with mem := [(0x0010, 0xFF)] })
    { State.reset with a := 0xFF, p := 0xA4, pc := 0xC002, cycle := 3, mem := [(0x0010, 0xFF)] } = true := by decide

theorem test_V5_lda :
    goesTo (stepDescriptor ⟨0xAD, 3, [0x00, 0x02], 0x200⟩
    { State.reset with mem := [(0x0200, 0x01)] })
    { State.reset with p := 0x24, a := 0x01, pc := 0xC003, cycle := 4, mem := [(0x0200, 0x01)] } = true := by decide

theorem test_V6_lda :
    goesTo (stepDescriptor ⟨0xAD, 3, [0x00, 0xC0], 0xC000⟩
    { State.reset with a := 0x55 })
    { State.reset with a := 0x00, p := 0x26, pc := 0xC003, cycle := 4 } = true := by decide

theorem test_V7_ldx :
    goesTo (stepDescriptor ⟨0xA2, 2, [0xFF], 0xFF⟩
    State.reset)
    { State.reset with x := 0xFF, p := 0xA4, pc := 0xC002, cycle := 2 } = true := by decide

theorem test_V8_ldx :
    goesTo (stepDescriptor ⟨0xA6, 2, [0xFC], 0xFC⟩
    { State.reset with x := 0x11, mem := [] })
    { State.reset with x := 0x00, p := 0x26, pc := 0xC002, cycle := 3, mem := [] } = true := by decide

theorem test_V9_ldx :
    goesTo (stepDescriptor ⟨0xAE, 3, [0xFF, 0xFF], 0xFFFF⟩
    { State.reset with mem := [(0xFFFF, 0x42)] })
    { State.reset with p := 0x24, x := 0x42, pc := 0xC003, cycle := 4, mem := [(0xFFFF, 0x42)] } = true := by decide

theorem test_V10_ldy :
    goesTo (stepDescriptor ⟨0xA0, 2, [0x00], 0x0⟩
    { State.reset with y := 0x01 })
    { State.reset with y := 0x00, p := 0x26, pc := 0xC002, cycle := 2 } = true := by decide

theorem test_V11_ldy :
    goesTo (stepDescriptor ⟨0xA4, 2, [0x00], 0x0⟩
    { State.reset with mem := [(0x0000, 0x80)] })
    { State.reset with y := 0x80, p := 0xA4, pc := 0xC002, cycle := 3, mem := [(0x0000, 0x80)] } = true := by decide

theorem test_V12_ldy :
    goesTo (stepDescriptor ⟨0xAC, 3, [0x34, 0x12], 0x1234⟩
    { State.reset with mem := [(0x1234, 0x7F)] })
    { State.reset with p := 0x24, y := 0x7F, pc := 0xC003, cycle := 4, mem := [(0x1234, 0x7F)] } = true := by decide

theorem test_V13_tax :
    goesTo (stepDescriptor ⟨0xAA, 1, [], 0x0⟩
    { State.reset with a := 0x90 })
    { State.reset with a := 0x90, x := 0x90, p := 0xA4, pc := 0xC001, cycle := 2 } = true := by decide

theorem test_V14_tax :
    goesTo (stepDescriptor ⟨0xAA, 1, [], 0x0⟩
    { State.reset with a := 0x00, x := 0x55 })
    { State.reset with a := 0x00, x := 0x00, p := 0x26, pc := 0xC001, cycle := 2 } = true := by decide

theorem test_V15_tay :
    goesTo (stepDescriptor ⟨0xA8, 1, [], 0x0⟩
    { State.reset with a := 0x7F })
    { State.reset with a := 0x7F, p := 0x24, y := 0x7F, pc := 0xC001, cycle := 2 } = true := by decide

theorem test_V16_txa :
    goesTo (stepDescriptor ⟨0x8A, 1, [], 0x0⟩
    { State.reset with x := 0x80, a := 0x01 })
    { State.reset with x := 0x80, a := 0x80, p := 0xA4, pc := 0xC001, cycle := 2 } = true := by decide

theorem test_V17_tya :
    goesTo (stepDescriptor ⟨0x98, 1, [], 0x0⟩
    { State.reset with y := 0x00, a := 0xFF })
    { State.reset with y := 0x00, a := 0x00, p := 0x26, pc := 0xC001, cycle := 2 } = true := by decide

theorem test_V18_sta :
    goesTo (stepDescriptor ⟨0x85, 2, [0x10], 0x10⟩
    { State.reset with a := 0x08 })
    { State.reset with a := 0x08, p := 0x24, pc := 0xC002, cycle := 3, mem := [(0x0010, 0x08)] } = true := by decide

theorem test_V19_sta :
    goesTo (stepDescriptor ⟨0x8D, 3, [0x00, 0x02], 0x200⟩
    { State.reset with a := 0x00, p := 0xA4, mem := [(0x0200, 0x77)] })
    { State.reset with a := 0x00, p := 0xA4, pc := 0xC003, cycle := 4, mem := [] } = true := by decide

theorem test_V20_stx :
    goesTo (stepDescriptor ⟨0x86, 2, [0xFC], 0xFC⟩
    { State.reset with x := 0x20 })
    { State.reset with x := 0x20, p := 0x24, pc := 0xC002, cycle := 3, mem := [(0x00FC, 0x20)] } = true := by decide

theorem test_V21_stx :
    goesTo (stepDescriptor ⟨0x8E, 3, [0x00, 0xC0], 0xC000⟩
    { State.reset with x := 0x33 })
    { State.reset with x := 0x33, p := 0x24, pc := 0xC003, cycle := 4, mem := [(0xC000, 0x33)] } = true := by decide

theorem test_V22_sty :
    goesTo (stepDescriptor ⟨0x84, 2, [0x00], 0x0⟩
    { State.reset with y := 0xC0 })
    { State.reset with y := 0xC0, p := 0x24, pc := 0xC002, cycle := 3, mem := [(0x0000, 0xC0)] } = true := by decide

theorem test_V23_sty :
    goesTo (stepDescriptor ⟨0x8C, 3, [0xFF, 0xFF], 0xFFFF⟩
    { State.reset with y := 0x7F })
    { State.reset with y := 0x7F, p := 0x24, pc := 0xC003, cycle := 4, mem := [(0xFFFF, 0x7F)] } = true := by decide

theorem test_V33_adc :
    goesTo (stepDescriptor ⟨0x69, 2, [0x90], 0x90⟩
    { State.reset with a := 0xD0 })
    { State.reset with a := 0x60, p := 0x65, pc := 0xC002, cycle := 2 } = true := by decide

theorem test_V36_adc :
    goesTo (stepDescriptor ⟨0x69, 2, [0x01], 0x1⟩
    { State.reset with a := 0x09, p := 0x2C })
    { State.reset with a := 0x0A, p := 0x2C, pc := 0xC002, cycle := 2 } = true := by decide

theorem test_V37_adc :
    goesTo (stepDescriptor ⟨0x65, 2, [0x10], 0x10⟩
    { State.reset with a := 0x01, mem := [(0x0010, 0x02)] })
    { State.reset with a := 0x03, p := 0x24, pc := 0xC002, cycle := 3, mem := [(0x0010, 0x02)] } = true := by decide

theorem test_V38_adc :
    goesTo (stepDescriptor ⟨0x6D, 3, [0x00, 0x02], 0x200⟩
    { State.reset with a := 0x01, p := 0x25, mem := [(0x0200, 0xFE)] })
    { State.reset with a := 0x00, p := 0x27, pc := 0xC003, cycle := 4, mem := [(0x0200, 0xFE)] } = true := by decide

theorem test_V40_asl :
    goesTo (stepDescriptor ⟨0x0A, 1, [], 0x0⟩
    { State.reset with a := 0x80, p := 0x24 })
    { State.reset with a := 0x00, p := 0x27, pc := 0xC001, cycle := 2 } = true := by decide

theorem test_V44_asl :
    goesTo (stepDescriptor ⟨0x0A, 1, [], 0x0⟩
    { State.reset with a := 0x01, p := 0x25 })
    { State.reset with a := 0x02, p := 0x24, pc := 0xC001, cycle := 2 } = true := by decide

theorem test_V45_lsr :
    goesTo (stepDescriptor ⟨0x4A, 1, [], 0x0⟩
    { State.reset with a := 0x03, p := 0x24 })
    { State.reset with a := 0x01, p := 0x25, pc := 0xC001, cycle := 2 } = true := by decide

theorem test_V47_lsr :
    goesTo (stepDescriptor ⟨0x4A, 1, [], 0x0⟩
    { State.reset with a := 0x80, p := 0xA4 })
    { State.reset with a := 0x40, p := 0x24, pc := 0xC001, cycle := 2 } = true := by decide

theorem test_V54_cmp :
    goesTo (stepDescriptor ⟨0xC9, 2, [0x00], 0x0⟩
    { State.reset with a := 0x80 })
    { State.reset with a := 0x80, p := 0xA5, pc := 0xC002, cycle := 2 } = true := by decide

theorem test_V55_cmp :
    goesTo (stepDescriptor ⟨0xC9, 2, [0x80], 0x80⟩
    { State.reset with a := 0x00, p := 0x25 })
    { State.reset with a := 0x00, p := 0xA4, pc := 0xC002, cycle := 2 } = true := by decide

theorem test_V57_cmp :
    goesTo (stepDescriptor ⟨0xC5, 2, [0x10], 0x10⟩
    { State.reset with a := 0x40, mem := [(0x0010, 0x3F)] })
    { State.reset with a := 0x40, p := 0x25, pc := 0xC002, cycle := 3, mem := [(0x0010, 0x3F)] } = true := by decide

theorem test_V58_cmp :
    goesTo (stepDescriptor ⟨0xCD, 3, [0x00, 0x02], 0x200⟩
    { State.reset with a := 0x10, mem := [(0x0200, 0x20)] })
    { State.reset with a := 0x10, p := 0xA4, pc := 0xC003, cycle := 4, mem := [(0x0200, 0x20)] } = true := by decide

theorem test_V59_cpx :
    goesTo (stepDescriptor ⟨0xE0, 2, [0x20], 0x20⟩
    { State.reset with x := 0x10 })
    { State.reset with x := 0x10, p := 0xA4, pc := 0xC002, cycle := 2 } = true := by decide

theorem test_V60_cpx :
    goesTo (stepDescriptor ⟨0xE4, 2, [0x10], 0x10⟩
    { State.reset with x := 0xFF, mem := [(0x0010, 0xFF)] })
    { State.reset with x := 0xFF, p := 0x27, pc := 0xC002, cycle := 3, mem := [(0x0010, 0xFF)] } = true := by decide

theorem test_V61_cpx :
    goesTo (stepDescriptor ⟨0xEC, 3, [0x00, 0x03], 0x300⟩
    { State.reset with x := 0x01 })
    { State.reset with x := 0x01, p := 0x25, pc := 0xC003, cycle := 4 } = true := by decide

theorem test_V62_cpy :
    goesTo (stepDescriptor ⟨0xC0, 2, [0x10], 0x10⟩
    { State.reset with y := 0x30 })
    { State.reset with y := 0x30, p := 0x25, pc := 0xC002, cycle := 2 } = true := by decide

theorem test_V63_cpy :
    goesTo (stepDescriptor ⟨0xC4, 2, [0xFD], 0xFD⟩
    { State.reset with y := 0x00, mem := [(0x00FD, 0xC0)] })
    { State.reset with y := 0x00, p := 0x24, pc := 0xC002, cycle := 3, mem := [(0x00FD, 0xC0)] } = true := by decide

theorem test_V64_cpy :
    goesTo (stepDescriptor ⟨0xCC, 3, [0x00, 0x03], 0x300⟩
    { State.reset with y := 0x80, mem := [(0x0300, 0x01)] })
    { State.reset with y := 0x80, p := 0x25, pc := 0xC003, cycle := 4, mem := [(0x0300, 0x01)] } = true := by decide

theorem test_V66_bit :
    goesTo (stepDescriptor ⟨0x24, 2, [0x20], 0x20⟩
    { State.reset with a := 0x00, mem := [(0x0020, 0xC0)] })
    { State.reset with a := 0x00, p := 0xE6, pc := 0xC002, cycle := 3, mem := [(0x0020, 0xC0)] } = true := by decide

theorem test_V67_bit :
    goesTo (stepDescriptor ⟨0x24, 2, [0x20], 0x20⟩
    { State.reset with a := 0xFF, p := 0xE6, mem := [(0x0020, 0x3F)] })
    { State.reset with a := 0xFF, p := 0x24, pc := 0xC002, cycle := 3, mem := [(0x0020, 0x3F)] } = true := by decide

theorem test_V69_bit :
    goesTo (stepDescriptor ⟨0x2C, 3, [0x00, 0x02], 0x200⟩
    { State.reset with a := 0x40, p := 0x25, mem := [(0x0200, 0x40)] })
    { State.reset with a := 0x40, p := 0x65, pc := 0xC003, cycle := 4, mem := [(0x0200, 0x40)] } = true := by decide

theorem test_V71_bcc :
    goesTo (stepDescriptor ⟨0x90, 2, [0xFC], 0xFC⟩
    { State.reset with pc := 0xC005 })
    { State.reset with pc := 0xC003, p := 0x24, cycle := 2 } = true := by decide

theorem test_V72_bcc :
    goesTo (stepDescriptor ⟨0x90, 2, [0xFC], 0xFC⟩
    { State.reset with pc := 0xC005, p := 0x25 })
    { State.reset with pc := 0xC007, p := 0x25, cycle := 2 } = true := by decide

theorem test_V73_bcs :
    goesTo (stepDescriptor ⟨0xB0, 2, [0x04], 0x4⟩
    { State.reset with pc := 0xC010, p := 0x25 })
    { State.reset with pc := 0xC016, p := 0x25, cycle := 2 } = true := by decide

theorem test_V74_bcs :
    goesTo (stepDescriptor ⟨0xB0, 2, [0x04], 0x4⟩
    { State.reset with pc := 0xC010 })
    { State.reset with pc := 0xC012, p := 0x24, cycle := 2 } = true := by decide

theorem test_V76_beq :
    goesTo (stepDescriptor ⟨0xF0, 2, [0x02], 0x2⟩
    { State.reset with pc := 0xC00A })
    { State.reset with pc := 0xC00C, p := 0x24, cycle := 2 } = true := by decide

theorem test_V78_bne :
    goesTo (stepDescriptor ⟨0xD0, 2, [0xFE], 0xFE⟩
    { State.reset with pc := 0xC020, p := 0x26 })
    { State.reset with pc := 0xC022, p := 0x26, cycle := 2 } = true := by decide

theorem test_V79_bmi :
    goesTo (stepDescriptor ⟨0x30, 2, [0x7F], 0x7F⟩
    { State.reset with pc := 0xC100, p := 0xA4 })
    { State.reset with pc := 0xC181, p := 0xA4, cycle := 2 } = true := by decide

theorem test_V80_bmi :
    goesTo (stepDescriptor ⟨0x30, 2, [0x7F], 0x7F⟩
    { State.reset with pc := 0xC100 })
    { State.reset with pc := 0xC102, p := 0x24, cycle := 2 } = true := by decide

theorem test_V81_bpl :
    goesTo (stepDescriptor ⟨0x10, 2, [0x80], 0x80⟩
    { State.reset with pc := 0xC100 })
    { State.reset with pc := 0xC082, p := 0x24, cycle := 2 } = true := by decide

theorem test_V82_bpl :
    goesTo (stepDescriptor ⟨0x10, 2, [0x80], 0x80⟩
    { State.reset with pc := 0xC100, p := 0xA4 })
    { State.reset with pc := 0xC102, p := 0xA4, cycle := 2 } = true := by decide

theorem test_V83_bvc :
    goesTo (stepDescriptor ⟨0x50, 2, [0x10], 0x10⟩
    { State.reset with pc := 0xC030 })
    { State.reset with pc := 0xC042, p := 0x24, cycle := 2 } = true := by decide

theorem test_V84_bvc :
    goesTo (stepDescriptor ⟨0x50, 2, [0x10], 0x10⟩
    { State.reset with pc := 0xC030, p := 0x64 })
    { State.reset with pc := 0xC032, p := 0x64, cycle := 2 } = true := by decide

theorem test_V85_bvs :
    goesTo (stepDescriptor ⟨0x70, 2, [0x00], 0x0⟩
    { State.reset with pc := 0xC030, p := 0x64 })
    { State.reset with pc := 0xC032, p := 0x64, cycle := 2 } = true := by decide

theorem test_V86_bvs :
    goesTo (stepDescriptor ⟨0x70, 2, [0x00], 0x0⟩
    { State.reset with pc := 0xC030 })
    { State.reset with pc := 0xC032, p := 0x24, cycle := 2 } = true := by decide

theorem test_V88_beq :
    goesTo (stepDescriptor ⟨0xF0, 2, [0x80], 0x80⟩
    { State.reset with pc := 0x0010, p := 0x26 })
    { State.reset with pc := 0xFF92, p := 0x26, cycle := 2 } = true := by decide

theorem test_V89_bne :
    goesTo (stepDescriptor ⟨0xD0, 2, [0xFF], 0xFF⟩
    { State.reset with pc := 0xC000 })
    { State.reset with pc := 0xC001, p := 0x24, cycle := 2 } = true := by decide

theorem test_V90_jmp :
    goesTo (stepDescriptor ⟨0x4C, 3, [0xF5, 0xC5], 0xC5F5⟩
    State.reset)
    { State.reset with p := 0x24, pc := 0xC5F5, cycle := 3, pcSet := true } = true := by decide

theorem test_V93_jsr :
    goesTo (stepDescriptor ⟨0x20, 3, [0x08, 0xC0], 0xC008⟩
    { State.reset with pc := 0xC002 })
    { State.reset with pc := 0xC008, p := 0x24, sp := 0xFB, cycle := 6, mem := [(0x00FC, 0x05), (0x00FD, 0xC0)], pcSet := true } = true := by decide

theorem test_V95_jsr :
    goesTo (stepDescriptor ⟨0x20, 3, [0x00, 0xC0], 0xC000⟩
    { State.reset with pc := 0xC002, sp := 0x00 })
    { State.reset with pc := 0xC000, sp := 0xFE, p := 0x24, cycle := 6, mem := [(0x0000, 0xC0), (0x00FF, 0x05)], pcSet := true } = true := by decide

theorem test_V98_rts :
    goesTo (stepDescriptor ⟨0x60, 1, [], 0x0⟩
    { State.reset with sp := 0xFB, pc := 0xC00B, mem := [(0x00FC, 0x05), (0x00FD, 0xC0)] })
    { State.reset with sp := 0xFD, pc := 0xC005, p := 0x24, cycle := 6, mem := [(0x00FC, 0x05), (0x00FD, 0xC0)], pcSet := true } = true := by decide

theorem test_V100_rts :
    goesTo (stepDescriptor ⟨0x60, 1, [], 0x0⟩
    { State.reset with sp := 0xFE, mem := [(0x0000, 0x12), (0x00FF, 0x34)] })
    { State.reset with sp := 0x00, p := 0x24, pc := 0x1234, cycle := 6, mem := [(0x0000, 0x12), (0x00FF, 0x34)], pcSet := true } = true := by decide

theorem test_V102_pha :
    goesTo (stepDescriptor ⟨0x48, 1, [], 0x0⟩
    { State.reset with a := 0x7F })
    { State.reset with a := 0x7F, p := 0x24, sp := 0xFC, pc := 0xC001, cycle := 3, mem := [(0x00FC, 0x7F)] } = true := by decide

theorem test_V103_pha :
    goesTo (stepDescriptor ⟨0x48, 1, [], 0x0⟩
    { State.reset with a := 0x01, sp := 0x00 })
    { State.reset with a := 0x01, sp := 0xFF, p := 0x24, pc := 0xC001, cycle := 3, mem := [(0x00FF, 0x01)] } = true := by decide

theorem test_V104_php :
    goesTo (stepDescriptor ⟨0x08, 1, [], 0x0⟩
    State.reset)
    { State.reset with p := 0x24, sp := 0xFC, pc := 0xC001, cycle := 3, mem := [(0x00FC, 0x24)] } = true := by decide

theorem test_V105_php :
    goesTo (stepDescriptor ⟨0x08, 1, [], 0x0⟩
    { State.reset with p := 0xE7 })
    { State.reset with p := 0xE7, sp := 0xFC, pc := 0xC001, cycle := 3, mem := [(0x00FC, 0xE7)] } = true := by decide

theorem test_V107_pla :
    goesTo (stepDescriptor ⟨0x68, 1, [], 0x0⟩
    { State.reset with sp := 0xFC, a := 0x55, mem := [] })
    { State.reset with sp := 0xFD, a := 0x00, p := 0x26, pc := 0xC001, cycle := 4, mem := [] } = true := by decide

theorem test_V108_pla :
    goesTo (stepDescriptor ⟨0x68, 1, [], 0x0⟩
    { State.reset with sp := 0xFC, a := 0x55, mem := [], params := { defaultParameters with plaUpdatesZN := false } })
    { State.reset with sp := 0xFD, a := 0x00, p := 0x24, pc := 0xC001, cycle := 4, mem := [], params := { defaultParameters with plaUpdatesZN := false } } = true := by decide

theorem test_V114_plp :
    goesTo (stepDescriptor ⟨0x28, 1, [], 0x0⟩
    { State.reset with sp := 0xFC, mem := [] })
    { State.reset with sp := 0xFD, p := 0x20, pc := 0xC001, cycle := 4, mem := [] } = true := by decide

theorem test_V115_plp :
    goesTo (stepDescriptor ⟨0x28, 1, [], 0x0⟩
    { State.reset with sp := 0xFC, mem := [(0x00FC, 0xFF)] })
    { State.reset with sp := 0xFD, p := 0xEF, pc := 0xC001, cycle := 4, mem := [(0x00FC, 0xFF)] } = true := by decide

theorem test_V118_sec :
    goesTo (stepDescriptor ⟨0x38, 1, [], 0x0⟩
    State.reset)
    { State.reset with p := 0x25, pc := 0xC001, cycle := 2 } = true := by decide

theorem test_V119_sec :
    goesTo (stepDescriptor ⟨0x38, 1, [], 0x0⟩
    { State.reset with p := 0x25 })
    { State.reset with p := 0x25, pc := 0xC001, cycle := 2 } = true := by decide

theorem test_V120_clc :
    goesTo (stepDescriptor ⟨0x18, 1, [], 0x0⟩
    { State.reset with p := 0x25 })
    { State.reset with p := 0x24, pc := 0xC001, cycle := 2 } = true := by decide

theorem test_V122_sei :
    goesTo (stepDescriptor ⟨0x78, 1, [], 0x0⟩
    { State.reset with p := 0x20 })
    { State.reset with p := 0x24, pc := 0xC001, cycle := 2 } = true := by decide

theorem test_V124_sed :
    goesTo (stepDescriptor ⟨0xF8, 1, [], 0x0⟩
    State.reset)
    { State.reset with p := 0x2C, pc := 0xC001, cycle := 2 } = true := by decide

theorem test_V125_cld :
    goesTo (stepDescriptor ⟨0xD8, 1, [], 0x0⟩
    { State.reset with p := 0x2C })
    { State.reset with p := 0x24, pc := 0xC001, cycle := 2 } = true := by decide

theorem test_V126_cld :
    goesTo (stepDescriptor ⟨0xD8, 1, [], 0x0⟩
    State.reset)
    { State.reset with p := 0x24, pc := 0xC001, cycle := 2 } = true := by decide

theorem test_V128_clv :
    goesTo (stepDescriptor ⟨0xB8, 1, [], 0x0⟩
    { State.reset with p := 0xE7 })
    { State.reset with p := 0xA7, pc := 0xC001, cycle := 2 } = true := by decide

theorem test_V130_nop :
    goesTo (stepDescriptor ⟨0xEA, 1, [], 0x0⟩
    { State.reset with pc := 0xFFFF })
    { State.reset with pc := 0x0000, p := 0x24, cycle := 2 } = true := by decide

theorem test_V131_and :
    faultsWith (stepDescriptor ⟨0x29, 1, [], 0x0⟩
    { State.reset with a := 0x12, p := 0xE7 }) (.unimplementedOpcode 0x29) = true := by decide

theorem test_V132_brk :
    faultsWith (stepDescriptor ⟨0x00, 1, [], 0x0⟩
    { State.reset with a := 0x12, p := 0xE7 }) (.unimplementedOpcode 0x00) = true := by decide

theorem test_V137_cli :
    faultsWith (stepDescriptor ⟨0x58, 1, [], 0x0⟩
    { State.reset with a := 0x12, p := 0xE7 }) (.unimplementedOpcode 0x58) = true := by decide

theorem test_V144_unofficial_ff :
    faultsWith (stepDescriptor ⟨0xFF, 1, [], 0x0⟩
    { State.reset with a := 0x12, p := 0xE7 }) (.unimplementedOpcode 0xFF) = true := by decide

theorem test_V146_lda :
    faultsWith (stepDescriptor ⟨0xB5, 1, [], 0x0⟩
    { State.reset with a := 0x12, p := 0xE7 }) (.unimplementedOpcode 0xB5) = true := by decide

theorem test_V149_lsr :
    faultsWith (stepDescriptor ⟨0x4E, 1, [], 0x0⟩
    { State.reset with a := 0x12, p := 0xE7 }) (.unimplementedOpcode 0x4E) = true := by decide

theorem test_V150_jmp :
    faultsWith (stepDescriptor ⟨0x6C, 1, [], 0x0⟩
    { State.reset with a := 0x12, p := 0xE7 }) (.unimplementedOpcode 0x6C) = true := by decide

/-! ### Witnesses: a concrete state and operands that meet the hypotheses of each statement that has some -/

/-- The reset state with these bytes placed at its program counter: a state that meets the invariant. -/
def placed (bytes : List Byte) : State := State.reset.placeAtPC bytes

/-- The image of a file with one PRG unit, or with none. -/
def emptyPrg : CartridgeImage := { blankImage with header := blankImage.header.set 4 0, prgRom := Region.empty }

theorem emptyPrg_wf : emptyPrg.wf := by
  refine ⟨by decide, by decide, fun r h => (by cases h), by decide, ?_, by decide, ?_⟩ <;>
    exact Memory.canonical_nil _

theorem placed_inv (b c d : Byte) : (placed [b, c, d]).Inv := by
  refine ⟨(by decide : State.reset.flag .r = true), (by decide : State.reset.flag .b = false), Memory.canonical_nil _,
    fun img h => ?_⟩
  cases h
  refine ⟨(by decide : blankImage.header.toList.take 4 = Config.magic),
    (by decide : blankImage.trainer.isSome = blankImage.flag6.getLsbD 2), fun r h => (by cases h),
    (Region.size_patch ..).trans (by decide : Config.prgUnit = blankImage.prgRomSize * Config.prgUnit), ?_, (by decide : 0 = blankImage.chrRomSize * Config.chrUnit), Memory.canonical_nil _⟩
  exact Region.wf_patch (Memory.canonical_nil _) (by decide : 0 + 3 ≤ Config.prgUnit)

/-- A file with one PRG unit of NOPs, without and with a trainer. -/
def fileOf (trainer : Bool) : List Byte :=
  header 1 0 (if trainer then 0x04 else 0x00) ++
    (List.replicate (if trainer then 512 else 0) 0xAB ++ List.replicate 16384 0xEA)

theorem fileOf_length (b : Bool) : (fileOf b).length = if b then 16912 else 16400 := by
  cases b <;> simp [fileOf, header, -List.reduceReplicate]

theorem fileOf_take (b : Bool) : (fileOf b).take 4 = [0x4E, 0x45, 0x53, 0x1A] := by
  cases b <;> rfl

theorem fileOf_loads (b : Bool) (s : State) : ∃ img, load (fileOf b) s = .next { s with cart := some img } := by
  have hl : 16 ≤ (fileOf b).length := by rw [fileOf_length]; cases b <;> decide
  refine ⟨_, load_of_tests hl (fileOf_take b) ?_ s⟩
  have h4 : (headerOf (fileOf b) hl)[4] = 1 := by rw [getElem_headerOf]; cases b <;> rfl
  have h5 : (headerOf (fileOf b) hl)[5] = 0 := by rw [getElem_headerOf]; cases b <;> rfl
  have h6 : (headerOf (fileOf b) hl)[6] = if b then 0x04 else 0x00 := by rw [getElem_headerOf]; cases b <;> rfl
  rw [fileOf_length, declaredLength, h4, h5, h6]
  cases b <;> decide

theorem witness_ResetGivesEveryElementItsValue :
    ∃ t s, (t = State.reset ∨ ∃ s, hostStep .reset s = .next t) ∧ hostStep .reset s = .next (resetState s) :=
  ⟨State.reset, placed [0xEA], .inl rfl, rfl⟩

/-- Both cases: without a trainer and with one. -/
theorem witness_FirstFetchAfterResetIsFirstPrgByte (b : Bool) :
    ∃ s t u, hostStep (.load (fileOf b)) s = .next t ∧ (fileOf b).getD 4 0 ≠ 0 ∧ hostStep .reset t = .next u := by
  obtain ⟨img, h⟩ := fileOf_loads b State.reset
  exact ⟨State.reset, _, _, h, by cases b <;> decide, rfl⟩

theorem witness_StepKeepsMachineInvariant : ∃ s t : State, s.Inv ∧ step s = .next t :=
  ⟨placed [0xA9, 0x80, 0x00], _, placed_inv .., rfl⟩

theorem witness_HostOperationsKeepMachineInvariant :
    ∃ s : State, s.Inv ∧ (∃ t, hostStep .reset s = .next t) ∧ (∃ t, hostStep (.load (fileOf true)) s = .next t) ∧
      (∃ t, hostStep (.step ⟨0x28, 1, [], 0⟩) s = .next t) ∧ ∃ t, hostStep .romStep s = .next t := by
  obtain ⟨img, h⟩ := fileOf_loads true (placed [0x28, 0x00, 0x00])
  exact ⟨placed [0x28, 0x00, 0x00], placed_inv .., ⟨_, rfl⟩, ⟨_, h⟩, ⟨_, rfl⟩, ⟨_, rfl⟩⟩

theorem witness_EncodeOfDecodeIsTheBytes : ∃ bytes rest i, decode bytes = .ok i rest :=
  ⟨[0x8D, 0x34, 0x12, 0xFF], [0xFF], .staAbs 0x1234, rfl⟩

/-- The first and the last byte of each list, and the bytes 0x00 and 0xFF of none; no byte lies in two lists. -/
theorem witness_OpcodeByteTellsTheLength :
    (0x08 ∈ oneByteOpcodes ∧ 0xF8 ∈ oneByteOpcodes) ∧ (0x10 ∈ twoByteOpcodes ∧ 0xF0 ∈ twoByteOpcodes) ∧
      (0x20 ∈ threeByteOpcodes ∧ 0xEC ∈ threeByteOpcodes) ∧ (0x00 ∉ implementedOpcodes ∧ 0xFF ∉ implementedOpcodes) ∧
      implementedOpcodes.Nodup := by decide

theorem witness_RomReadIsBoundsChecked :
    (∃ (s : State) (off : Int), off < 0 ∧ s.romRead off = none) ∧
      (∃ (s : State) (off : Int), (s.prgRom.size : Int) ≤ off ∧ s.prgRom.size ≠ 0 ∧ s.romRead off = none) ∧
      (∃ (s : State) (off : Int), 0 ≤ off ∧ off < s.prgRom.size) ∧ (∃ s : State, s.cart = none) ∧
      ∃ s : State, s.romRead (translateAddress s.pc) = none :=
  ⟨⟨withRom 0xC000 [0xEA], -1, by decide⟩, ⟨withRom 0xC000 [0xEA], 1, by decide⟩, ⟨withRom 0xC000 [0xEA], 0, by decide⟩,
    ⟨State.reset, rfl⟩, ⟨State.reset, by decide⟩⟩

theorem witness_StepRunsTheEncodedInstruction :
    ∃ (s : State) (i : Instr), ∀ (k : Nat) (b : Byte), (encode i)[k]? = some b →
      s.romRead (translateAddress s.pc + k) = some b := by
  refine ⟨withRom 0xC000 [0x4C, 0xF5, 0xC5], .jmpAbs 0xC5F5, fun k b h => ?_⟩
  have hk : k < 3 := (List.getElem?_eq_some_iff.1 h).1
  rcases (by omega : k = 0 ∨ k = 1 ∨ k = 2) with rfl | rfl | rfl <;> (cases h; decide)

/-- Each case of FetchDecode and of R165: no byte, an unimplemented byte, each length, each operand byte missing. -/
def fetchCases : List State :=
  [withRom 0xC000 [], withRom 0xC000 [0x00], withRom 0xC000 [0xEA], withRom 0xC000 [0xA9], withRom 0xC000 [0xA9, 0x05],
    withRom 0xC000 [0xAD], withRom 0xC000 [0xAD, 0x00], withRom 0xC000 [0xAD, 0x00, 0x02]]

theorem witness_RomStepIsFetchDecodeThenStep :
    fetchCases.map (fun s => (s.romRead 0, s.romRead 1, s.romRead 2)) =
      [(none, none, none), (some 0x00, none, none), (some 0xEA, none, none), (some 0xA9, none, none),
        (some 0xA9, some 0x05, none), (some 0xAD, none, none), (some 0xAD, some 0x00, none),
        (some 0xAD, some 0x00, some 0x02)] ∧
      (∀ s ∈ fetchCases, translateAddress s.pc = 0) ∧
      (0x00 ∉ implementedOpcodes ∧ 0xEA ∈ oneByteOpcodes ∧ 0xA9 ∈ twoByteOpcodes ∧ 0xAD ∈ threeByteOpcodes) ∧
      ∃ s ∈ fetchCases, ∃ f, s.fetchDecode = .error f :=
  ⟨by decide, by decide, by decide, withRom 0xC000 [], by simp [fetchCases], _, rfl⟩

theorem witness_FirstFaultMetIsRaised :
    (fetchCases.map fun s => faultsWith (step s) (.outOfRange 0)) =
        [true, false, false, false, false, false, false, false] ∧
      (fetchCases.map fun s => faultsWith (step s) (.outOfRange 1)) =
        [false, false, false, true, false, true, false, false] ∧
      (fetchCases.map fun s => faultsWith (step s) (.outOfRange 2)) =
        [false, false, false, false, false, false, true, false] ∧
      Descriptor.wellFormed ⟨0xA9, 2, [0x05], 0x05⟩ = true ∧ Descriptor.wellFormed ⟨0x00, 1, [], 0⟩ = true := by decide

theorem witness_LoadedImageFaultsOnlyAtNegativeOffsets :
    (∃ (s : State) (img : CartridgeImage), s.Inv ∧ s.cart = some img ∧ 1 ≤ img.prgRomSize ∧ 0 ≤ translateAddress s.pc) ∧
      (∃ (s : State) (img : CartridgeImage), s.Inv ∧ s.cart = some img ∧ 1 ≤ img.prgRomSize ∧ translateAddress s.pc < 0) ∧
      ∃ (s : State) (img : CartridgeImage), s.Inv ∧ s.cart = some img ∧ img.prgRomSize = 0 := by
  have hi := placed_inv 0xA9 0x80 0x00
  refine ⟨⟨placed [0xA9, 0x80, 0x00], _, hi, rfl, by decide, by decide⟩,
    ⟨{ placed [0xA9, 0x80, 0x00] with pc := 0xB0FF }, _, ⟨hi.1, hi.2, hi.3, hi.4⟩, rfl, by decide, by decide⟩,
    ⟨{ State.reset with cart := some emptyPrg }, emptyPrg, ⟨by decide, by decide, Memory.canonical_nil _, ?_⟩, rfl, by decide⟩⟩
  intro img h
  cases h
  exact emptyPrg_wf

/-- Both sides of each bound: sizes, counts and the largest values that fit. -/
theorem witness_OnlyWellFormedDescriptorsAreExecuted :
    Descriptor.wellFormed ⟨255, 3, [0x00], 70000⟩ = true ∧ Descriptor.wellFormed ⟨0xEA, 1, [], 0⟩ = true ∧
      Descriptor.wellFormed ⟨0xA9, 2, [0x00], 0xFF⟩ = true ∧ Descriptor.wellFormed ⟨0xA9, 2, [0x00], 0x100⟩ = false ∧
      Descriptor.wellFormed ⟨0xAD, 3, [0x00, 0x00], 0xFFFF⟩ = true ∧
      Descriptor.wellFormed ⟨0xAD, 3, [0x00, 0x00], 0x10000⟩ = false ∧
      Descriptor.wellFormed ⟨0xA9, 2, [0x01], 0xFF⟩ = true := by decide

theorem witness_DescriptorPathExecutesTheInstruction :
    (Instr.implemented .nop = true ∧ Instr.operandBytes .nop = []) ∧
      (Instr.implemented (.bcc 0xFF) = true ∧ Instr.operandBytes (.bcc 0xFF) = [0xFF]) ∧
      Instr.implemented (.jmpAbs 0xC5F5) = true ∧ Instr.operandBytes (.jmpAbs 0xC5F5) = [0xF5, 0xC5] := by decide

theorem witness_PlacedWordIsExecutedNext :
    (∃ nbits w i, decodeTableWord nbits w = some i) ∧ (∃ s : State, 0 ≤ translateAddress s.pc) ∧
      ∃ s : State, translateAddress s.pc < 0 :=
  ⟨⟨24, 0xC5F54C, .jmpAbs 0xC5F5, by decide⟩, ⟨State.reset, by decide⟩, ⟨{ State.reset with pc := 0xB0FF }, by decide⟩⟩

theorem witness_ExactlyTheListedOpcodesExecute :
    Instr.opcode .nop ∈ implementedOpcodes ∧ Instr.opcode .brk ∉ implementedOpcodes := by decide

theorem witness_MarkedOpcodeFaultsAndChangesNothing :
    ∃ (s : State) (op : Byte) (i : Instr) (d : Descriptor), op ∉ implementedOpcodes ∧ i.opcode = op ∧ d.opcode = op.toNat ∧
      s.romRead (translateAddress s.pc) = some op :=
  ⟨withRom 0xC000 [0x29], 0x29, .andImm, ⟨0x29, 2, [0x0F], 0x0F⟩, by decide, rfl, rfl, by decide⟩

/-- A fault of each kind, in a state whose `pc_set` is raised, as a JMP leaves it. -/
theorem witness_FaultLeavesTheStateAsItWas :
    ∃ s : State, s.pcSet = true ∧ (∃ f, hostStep .romStep s = .fault f) ∧ (∃ f, hostStep (.load []) s = .fault f) ∧
      ∃ f, hostStep (.step ⟨0x00, 1, [], 0⟩) s = .fault f :=
  ⟨{ State.reset with pcSet := true }, rfl, ⟨_, rfl⟩, ⟨_, rfl⟩, ⟨_, rfl⟩⟩

theorem witness_OnlyLoadChangesTheImage :
    ∃ (op : HostOp) (s t : State), (∀ file, op ≠ .load file) ∧ hostStep op s = .next t ∧ s.cart ≠ none :=
  ⟨.romStep, placed [0xEA], _, fun _ h => (by cases h), rfl, by decide⟩

/-- An instruction that completes, of each shape: a store, an arithmetic form, a branch taken, a call, a return, a pull of
the status. Statements with the premise `exec i s = .next t` and no other use it. -/
theorem witness_exec_completes :
    ∀ i ∈ [Instr.staAbs 0xC000, .adcImm 0x01, .bcc 0x80, .jsr 0xC008, .rts, .plp, .pla, .ldaImm 0x80, .nop],
      ∃ t, exec i State.reset = .next t := by
  intro i hi
  fin_cases hi <;> exact ⟨_, rfl⟩

theorem witness_StoresAreNeverSeenByFetch : ∃ i s t, exec i s = .next t ∧ t.mem ≠ s.mem :=
  ⟨.staAbs 0xC000, { State.reset with a := 0x55 }, _, rfl, by decide⟩

theorem witness_DataAccessesNeverReachTheImage : ∃ i s t, exec i s = .next t ∧ s.cart ≠ none :=
  ⟨.ldaAbs 0xC000, placed [0xAD, 0x00, 0xC0], _, rfl, by decide⟩

theorem witness_CyclesAreCountedAndNeverRead :
    (∃ i s t, exec i s = .next t) ∧ (∃ i s f, exec i s = .fault f) ∧ (∃ s t, step s = .next t) ∧ ∃ s f, step s = .fault f :=
  ⟨⟨.nop, State.reset, _, rfl⟩, ⟨.brk, State.reset, _, rfl⟩, ⟨placed [0xEA], _, rfl⟩, ⟨State.reset, _, rfl⟩⟩

/-- Every clause: the three jumps, each branch taken and not taken (by the flags), and another instruction. -/
theorem witness_ProgramCounterAfterAnyInstruction :
    ∀ s ∈ [{ State.reset with p := 0x20 }, { State.reset with p := 0xE3 }],
      ∀ i ∈ [Instr.jmpAbs 0x1234, .jsr 0x1234, .rts, .bcc 0x80, .bcs 0x80, .beq 0x7F, .bne 0x7F, .bmi 0xFE, .bpl 0xFE,
        .bvc 0x00, .bvs 0x00, .ldaAbs 0xFFFF], ∃ t, exec i s = .next t := by
  intro s hs i hi
  fin_cases hi <;> exact ⟨_, rfl⟩

/-- A completed instruction outside each list of writers, and PLA with the parameter false. -/
theorem witness_OnlyTheNamedMnemonicsWriteARegister :
    ∃ s t, exec .sec s = .next t ∧ Instr.mnemonic .sec ∉ ["LDA", "TXA", "TYA", "ADC", "ASL", "LSR", "PLA"] ∧
      Instr.mnemonic .sec ∉ ["LDX", "TAX"] ∧ Instr.mnemonic .sec ∉ ["LDY", "TAY"] ∧
      Instr.mnemonic .sec ∉ ["PHA", "PHP", "PLA", "PLP", "JSR", "RTS"] :=
  ⟨State.reset, _, rfl, by decide⟩

theorem witness_OnlyTheNamedMnemonicsWriteAFlag :
    (∃ s t, exec (.staAbs 0xFFFF) s = .next t) ∧
      (∃ s t, exec .pla s = .next t ∧ Instr.mnemonic .pla = "PLA" ∧ s.params.plaUpdatesZN = false) :=
  ⟨⟨State.reset, _, rfl⟩, ⟨{ State.reset with params := ⟨false, defaultParameters.cycles⟩ }, _, rfl, by decide, rfl⟩⟩

theorem witness_ReservedBitsOfPKeepTheirValues :
    (∃ s t, exec .plp s = .next t) ∧ ∃ s t, exec .php s = .next t ∧ s.flag .r = true ∧ s.flag .b = false :=
  ⟨⟨State.reset, _, rfl⟩, ⟨State.reset, _, rfl, by decide⟩⟩

theorem witness_OnlyStoresPushesAndCallsWriteMemory :
    ∃ s t, exec (.bitAbs 0xFFFF) s = .next t ∧
      Instr.mnemonic (.bitAbs 0xFFFF) ∉ ["STA", "STX", "STY", "PHA", "PHP", "JSR"] :=
  ⟨State.reset, _, rfl, by decide⟩

/-- Each of the three instructions with `SP` at 0xFD in a state that is not the reset state, JSR after reset, and the
boundary addresses 0x0100 and 0xFFFF. -/
theorem witness_StackLiesInTheFirst256Cells :
    (∃ s : State, s.sp = 0xFD ∧ s.a = 0x7F ∧ (∃ t, exec .pha s = .next t) ∧ (∃ t, exec .php s = .next t) ∧
      ∃ t, exec (.jsr 0xC000) s = .next t) ∧
      (∃ s u t, hostStep .reset s = .next u ∧ exec (.jsr 0xC000) u = .next t) ∧ 0x100 ≤ (0x0100 : Addr).toNat ∧
      0x100 ≤ (0xFFFF : Addr).toNat :=
  ⟨⟨{ State.reset with a := 0x7F }, rfl, rfl, ⟨_, rfl⟩, ⟨_, rfl⟩, ⟨_, rfl⟩⟩, ⟨State.reset, State.reset, _, rfl, rfl⟩,
    by decide, by decide⟩

/-- The boundary addresses of the premises: the last page offset but one, the page before the last, 0xC000 and below. -/
theorem witness_TranslateFormulaAndRange :
    ((0xCFFE : Addr).toNat % 4096 < 4095 ∧ ¬(0xCFFF : Addr).toNat % 4096 < 4095) ∧
      ((0xEFFF : Addr).toNat < 0xF000 ∧ ¬(0xF000 : Addr).toNat < 0xF000) ∧
      (0xC000 ≤ (0xC000 : Addr).toNat ∧ (0xBFFF : Addr).toNat < 0xC000) ∧
      (0xB0FF : Addr).toNat % 4096 < (12 - (0xB0FF : Addr).toNat / 4096) * 256 ∧
      ¬(0xB100 : Addr).toNat % 4096 < (12 - (0xB100 : Addr).toNat / 4096) * 256 := by decide

/-- Each way to be refused, and files without and with a trainer that are accepted. -/
theorem witness_LoadReadsTheDeclaredRegions :
    ((header 1 1 0).take 15).length < 16 ∧ List.take 4 [0x4E, 0x45, 0x53, (0x1B : Byte)] ≠ [0x4E, 0x45, 0x53, 0x1A] ∧
      (header 0 0 0x04).length < fileNeed (header 0 0 0x04) ∧
      (∀ b, 16 ≤ (fileOf b).length ∧ (fileOf b).take 4 = [0x4E, 0x45, 0x53, 0x1A] ∧ fileNeed (fileOf b) ≤ (fileOf b).length) := by
  refine ⟨by decide, by decide, by decide, fun b => ⟨?_, fileOf_take b, ?_⟩⟩
  · rw [fileOf_length]; cases b <;> decide
  · rw [fileOf_length]; cases b <;> decide

theorem witness_BitUtilitiesActOnOneBit : (0xFF : Nat) < 256 ∧ (0 : Nat) < 8 ∧ (7 : Nat) < 8 := by decide

/-- A raw sum, with and without the carry. -/
theorem witness_AddWithCarry :
    ∃ (s : State) (m : Byte) (raw : Nat), s.flag .c = true ∧ raw = s.a.toNat + m.toNat + (if s.flag .c then 1 else 0) ∧
      255 < raw :=
  ⟨{ State.reset with a := 0xFF, p := 0x25 }, 0xFF, 511, by decide, by decide, by decide⟩

/-- V33 (V set) and V34 (V clear), in each of the three forms: the operand at 0x00 and 0x0200 too. -/
theorem witness_AdcReportsSignedAndUnsignedOverflow :
    (∀ i ∈ [Instr.adcImm 0x90, .adcZp 0x00, .adcAbs 0x0200],
      ∃ t, exec i { State.reset with a := 0xD0, mem := [(0x00, 0x90), (0x0200, 0x90)] } = .next t ∧ t.flag .v = true) ∧
      ∀ i ∈ [Instr.adcImm 0xF0, .adcZp 0x00, .adcAbs 0x0200],
        ∃ t, exec i { State.reset with a := 0x50, mem := [(0x00, 0xF0), (0x0200, 0xF0)] } = .next t ∧ t.flag .v = false := by
  constructor <;> intro i hi <;> fin_cases hi <;> exact ⟨_, rfl, by decide⟩

/-- With the stack pointer at 0x00, where the two cells lie at 0x0000 and 0x00FF (V95). -/
theorem witness_ReturnUndoesCall :
    ∃ (s t u : State) (w : Addr), exec (.jsr w) s = .next t ∧ u.sp = t.sp ∧
      (∀ a ∈ [zext16 s.sp, zext16 (s.sp - 1)], u.memRead a = t.memRead a) ∧ s.sp = 0x00 :=
  ⟨{ State.reset with sp := 0x00 }, _, _, 0xC008, rfl, rfl, fun _ _ => rfl, rfl⟩

/-- Both values of the parameter. -/
theorem witness_PullAccumulator :
    (∃ s : State, s.params.plaUpdatesZN = true) ∧ ∃ s : State, s.params.plaUpdatesZN = false :=
  ⟨⟨State.reset, rfl⟩, ⟨{ State.reset with params := ⟨false, defaultParameters.cycles⟩ }, rfl⟩⟩

theorem witness_PullUndoesPush :
    (∃ s t u : State, exec .pha s = .next t ∧ u.sp = t.sp ∧ u.memRead (zext16 t.sp) = t.memRead (zext16 t.sp)) ∧
      ∃ s t u : State, exec .php s = .next t ∧ u.sp = t.sp ∧ u.memRead (zext16 t.sp) = t.memRead (zext16 t.sp) ∧
        s.flag .r = true ∧ s.flag .b = false :=
  ⟨⟨State.reset, _, _, rfl, rfl, rfl⟩, ⟨State.reset, _, _, rfl, rfl, rfl, by decide⟩⟩

theorem witness_CallOverwritesThePushedByte :
    ∃ s t1 t2 t3 t4 : State, exec .pha s = .next t1 ∧ exec (.jsr 0xC008) t1 = .next t2 ∧ exec .rts t2 = .next t3 ∧
      exec .pla t3 = .next t4 :=
  ⟨State.reset, _, _, _, _, rfl, rfl, rfl, rfl⟩

end Sys2Proof.Tests
end

section
/-! SUPPORT. That nothing but `Load` changes the loaded image (R39): what a completed execution, and so a completed step on
either path, leaves of it. -/

namespace Sys2Proof.Machine

/-- `Step(d)` completes only on a well-formed descriptor, by executing its instruction (R27, R176). -/
theorem stepDescriptor_next {d : Descriptor} {s t : State} (h : stepDescriptor d s = .next t) :
    d.wellFormed ∧ exec d.instr s = .next t := by
  unfold stepDescriptor at h
  split at h
  · exact ⟨‹_›, h⟩
  · cases h

/-- No instruction changes the loaded image (R39): neither its handler nor what a step does around it. -/
theorem exec_next_cart {i : Instr} {s t : State} (he : exec i s = .next t) : t.cart = s.cart := by
  obtain ⟨h, hh, rfl⟩ := exec_next he
  obtain ⟨-, hcart, -⟩ := handler_keeps hh s.beginStep
  simp [hcart]

/-- Settles O24, by the cases of the host operation: `Reset` keeps the image, and `Step` and `RomStep` complete by executing
an instruction. -/
theorem onlyLoadChangesTheImage : Obligations.OnlyLoadChangesTheImage := by
  intro op s t hop h
  cases op with
  | reset => cases h; rfl
  | load file => exact absurd rfl (hop file)
  | step d =>
    obtain ⟨-, he⟩ := stepDescriptor_next h
    exact exec_next_cart he
  | romStep =>
    obtain ⟨i, -, he⟩ := step_next h
    exact exec_next_cart he

end Sys2Proof.Machine
end

section
/-! SUPPORT. The bit utilities as integers (R85): what `check` and `copy` answer, and what one utility leaves after another. The
difference that Compare tests, as a number (R87). -/

namespace Sys2Proof.Machine

/-! ### Bit utilities (R85) -/

theorem check_eq_ite (v i : Nat) : BitUtil.check v i = if v.testBit i then 2 ^ i else 0 := by
  rw [BitUtil.check, Nat.and_two_pow]
  cases v.testBit i <;> simp

theorem copy_eq_ite (src dst i : Nat) :
    BitUtil.copy src dst i = if src.testBit i then BitUtil.set dst i else BitUtil.clear dst i := by
  simp only [BitUtil.copy, check_ne_zero_iff]

theorem clear_set (v i : Nat) : BitUtil.clear (BitUtil.set v i) i = BitUtil.clear v i :=
  Nat.eq_of_testBit_eq fun j => by
    rw [testBit_clear, testBit_set, testBit_clear]
    cases decide (i = j) <;> simp

theorem set_set (v i : Nat) : BitUtil.set (BitUtil.set v i) i = BitUtil.set v i :=
  Nat.eq_of_testBit_eq fun j => by rw [testBit_set, testBit_set, Bool.or_assoc, Bool.or_self]

theorem clear_clear (v i : Nat) : BitUtil.clear (BitUtil.clear v i) i = BitUtil.clear v i :=
  Nat.eq_of_testBit_eq fun j => by rw [testBit_clear, testBit_clear, Bool.and_assoc, Bool.and_self]

theorem check_set_ne_zero (v i : Nat) : BitUtil.check (BitUtil.set v i) i ≠ 0 := by
  rw [check_ne_zero_iff, testBit_set]
  simp

theorem set_lt_two_pow {v i n : Nat} (hv : v < 2 ^ n) (hi : i < n) : BitUtil.set v i < 2 ^ n :=
  Nat.or_lt_two_pow hv (Nat.pow_lt_pow_right Nat.one_lt_two hi)

theorem clear_lt_two_pow {v n : Nat} (hv : v < 2 ^ n) (i : Nat) : BitUtil.clear v i < 2 ^ n :=
  Nat.xor_lt_two_pow hv (Nat.lt_of_le_of_lt Nat.and_le_left hv)

/-- Settles O36: each utility by what it does to each bit, and the 8-bit bounds at width 8. -/
theorem bitUtilitiesActOnOneBit : Obligations.BitUtilitiesActOnOneBit := by
  refine ⟨fun v i j => ⟨check_eq_ite v i, ?_, ?_⟩, copy_eq_ite,
    fun v i => ⟨clear_set v i, check_set_ne_zero v i, set_set v i, clear_clear v i⟩,
    fun v i hv hi => ⟨set_lt_two_pow (n := 8) hv hi, clear_lt_two_pow (n := 8) hv i⟩, rfl⟩
  · rw [testBit_set]
    by_cases h : j = i
    · simp [h]
    · simp [h, Ne.symm h]
  · rw [testBit_clear]
    by_cases h : j = i
    · simp [h]
    · simp [h, Ne.symm h]

/-! ### Compare (R87) -/

/-- The 8-bit difference that Compare tests, as a number. -/
theorem toNat_sub_byte (r m : Byte) : (r - m).toNat = (r.toNat + 256 - m.toNat) % 256 := by
  bv_omega

/-- Settles O38, by the cases of the flag. -/
theorem compareAssignsZNAndCOnly : Obligations.CompareAssignsZNAndCOnly := by
  intro r m p
  constructor
  · intro f
    rw [flagOf_compareFlags, ← toNat_sub_byte]
    cases f with
    | z => exact decide_eq_decide.2 BitVec.toNat_inj.symm
    | n => exact (BitVec.testBit_toNat _).symm
    | c => rfl
    | i | d | b | r | v => rfl
  · rw [flagOf_compareFlags, decide_eq_true_iff]
    exact sub_eq_zero

end Sys2Proof.Machine
end

section
/-! SUPPORT. The machine's invariant holds at reset, and every operation of the host keeps it (R15, R17, R20). -/

namespace Sys2Proof.Machine

/-- The invariant is the part a handler can touch, and a well-formed image. -/
theorem State.inv_iff (s : State) : s.Inv ↔ HandlerInv s ∧ ∀ img, s.cart = some img → img.wf :=
  ⟨fun ⟨hr, hb, hm, hc⟩ => ⟨⟨hr, hb, hm⟩, hc⟩, fun ⟨⟨hr, hb, hm⟩, hc⟩ => ⟨hr, hb, hm, hc⟩⟩

/-- `Reset` gives a state that satisfies the invariant as far as it does not speak of the image (R180). -/
theorem handlerInv_resetState (s : State) : HandlerInv (resetState s) :=
  ⟨(by decide : flagOf Config.resetP .r = true), (by decide : flagOf Config.resetP .b = false), Memory.canonical_nil _⟩

/-- A completed instruction keeps the invariant: its handler keeps flags and memory, and no image changes. -/
theorem exec_keeps_inv {i : Instr} {s t : State} (hs : s.Inv) (he : exec i s = .next t) : t.Inv := by
  obtain ⟨hi, hc⟩ := s.inv_iff.1 hs
  exact t.inv_iff.2 ⟨exec_handlerInv he hi, exec_next_cart he ▸ hc⟩

/-- A step that completes keeps the invariant: it executes what it fetched. -/
theorem step_keeps_inv {s t : State} (hs : s.Inv) (h : step s = .next t) : t.Inv := by
  obtain ⟨i, -, he⟩ := step_next h
  exact exec_keeps_inv hs he

/-- A successful `Load` keeps the invariant: the image it makes is well-formed, and nothing else changes. -/
theorem load_keeps_inv {file : List Byte} {s t : State} (hs : s.Inv) (h : load file s = .next t) : t.Inv := by
  obtain ⟨hl, hm, hn, rfl⟩ := load_next h
  obtain ⟨hi, -⟩ := s.inv_iff.1 hs
  refine (State.inv_iff _).2 ⟨hi, fun img himg => ?_⟩
  cases himg
  exact imageOf_wf hl hm hn

/-- Settles O3: the reset state is what `Reset` makes of itself, and it has no image. -/
theorem resetStateSatisfiesInvariant : Obligations.ResetStateSatisfiesInvariant :=
  (State.inv_iff _).2 ⟨handlerInv_resetState State.reset, fun _ h => nomatch h⟩

/-- Settles O4: a step executes the instruction it fetched, whose handler keeps the invariant. -/
theorem stepKeepsMachineInvariant : Obligations.StepKeepsMachineInvariant :=
  fun _ _ => step_keeps_inv

/-- Settles O5, by the cases of the host operation. -/
theorem hostOperationsKeepMachineInvariant : Obligations.HostOperationsKeepMachineInvariant := by
  intro op s t hs h
  cases op with
  | reset =>
    cases h
    obtain ⟨-, hc⟩ := s.inv_iff.1 hs
    exact (State.inv_iff _).2 ⟨handlerInv_resetState s, hc⟩
  | load file => exact load_keeps_inv hs h
  | step d =>
    obtain ⟨-, he⟩ := stepDescriptor_next h
    exact exec_keeps_inv hs he
  | romStep => exact step_keeps_inv hs h

end Sys2Proof.Machine
end

section
/-! SUPPORT. Decoding and encoding agree (R50 to R60); and the opcode lists of R54 are the matrix's entries, read by format. -/

namespace Sys2Proof

open Sys2Proof.Claims

/-! ### Decoding by the format of the first byte (R50) -/

section
variable {op : Byte} {i : Instr}

theorem decode_of_f1 (h : formOf op = .f1 i) (rest : List Byte) : decode (op :: rest) = .ok i rest := by
  simp only [decode, h]

theorem decode_of_marker (h : formOf op = .marker i) (rest : List Byte) : decode (op :: rest) = .ok i rest := by
  simp only [decode, h]

theorem decode_of_f2 {mk : Byte → Instr} (h : formOf op = .f2 mk) (b : Byte) (rest : List Byte) :
    decode (op :: b :: rest) = .ok (mk b) rest := by
  simp only [decode, h]

theorem decode_of_f3 {mk : Addr → Instr} (h : formOf op = .f3 mk) (lo hi : Byte) (rest : List Byte) :
    decode (op :: lo :: hi :: rest) = .ok (mk (wordOf lo hi)) rest := by
  simp only [decode, h]

end

theorem addrBytes_wordOf (lo hi : Byte) : addrBytes (wordOf lo hi) = [lo, hi] := by
  rw [addrBytes, loByte_wordOf, hiByte_wordOf]

/-- The entry at an instruction's opcode byte makes this instruction from its operand bytes (R53), format by format. -/
theorem Instr.form_cases (i : Instr) :
    (formOf i.opcode = .f1 i ∧ i.operandBytes = []) ∨ (formOf i.opcode = .marker i ∧ i.operandBytes = []) ∨
      (∃ mk b, formOf i.opcode = .f2 mk ∧ mk b = i ∧ i.operandBytes = [b]) ∨
      ∃ mk a, formOf i.opcode = .f3 mk ∧ mk a = i ∧ i.operandBytes = addrBytes a := by
  have hm := matrixEntry i
  unfold Laws.MatrixEntry.Statement at hm
  cases hf : formOf i.opcode with
  | f1 j =>
    rw [hf] at hm
    obtain ⟨rfl, hb⟩ := hm
    exact .inl ⟨rfl, hb⟩
  | marker j =>
    rw [hf] at hm
    obtain ⟨rfl, hb⟩ := hm
    exact .inr (.inl ⟨rfl, hb⟩)
  | f2 mk =>
    rw [hf] at hm
    obtain ⟨b, hi, hb⟩ := hm
    exact .inr (.inr (.inl ⟨mk, b, rfl, hi, hb⟩))
  | f3 mk =>
    rw [hf] at hm
    obtain ⟨a, hi, hb⟩ := hm
    exact .inr (.inr (.inr ⟨mk, a, rfl, hi, hb⟩))

/-- Settles O6, by the format of the instruction's entry in the matrix, which its operand bytes fit. -/
theorem decodeOfEncodeIsTheInstruction : Obligations.DecodeOfEncodeIsTheInstruction := by
  intro i rest
  rw [encode]
  obtain ⟨hf, hb⟩ | ⟨hf, hb⟩ | ⟨mk, b, hf, hi, hb⟩ | ⟨mk, a, hf, hi, hb⟩ := i.form_cases
  · rw [hb]
    exact decode_of_f1 hf rest
  · rw [hb]
    exact decode_of_marker hf rest
  · rw [hb]
    exact (decode_of_f2 hf b rest).trans (by rw [hi])
  · rw [hb]
    exact (decode_of_f3 hf (loByte a) (hiByte a) rest).trans (by rw [wordOf_lo_hi, hi])

/-- Settles O7, by the format of the first byte's entry in the matrix: the entry fits its opcode byte. -/
theorem encodeOfDecodeIsTheBytes : Obligations.EncodeOfDecodeIsTheBytes := by
  intro bytes rest i h
  cases bytes with
  | nil => cases h
  | cons op bs =>
    have hfit := formFits op
    rw [encode]
    cases hf : formOf op with
    | f1 j =>
      rw [decode_of_f1 hf] at h
      rw [hf] at hfit
      cases h
      obtain ⟨ho, -, -, hb⟩ := hfit
      rw [ho, hb]
      rfl
    | marker j =>
      rw [decode_of_marker hf] at h
      rw [hf] at hfit
      cases h
      obtain ⟨ho, -, hb⟩ := hfit
      rw [ho, hb]
      rfl
    | f2 mk =>
      rw [hf] at hfit
      cases bs with
      | nil => simp only [decode, hf] at h; cases h
      | cons b bs =>
        rw [decode_of_f2 hf] at h
        cases h
        obtain ⟨ho, -, -, hb⟩ := hfit b
        rw [ho, hb]
        rfl
    | f3 mk =>
      rw [hf] at hfit
      match bs with
      | [] => simp only [decode, hf] at h; cases h
      | [_] => simp only [decode, hf] at h; cases h
      | lo :: hi :: bs =>
        rw [decode_of_f3 hf] at h
        cases h
        obtain ⟨ho, -, -, hb⟩ := hfit (wordOf lo hi)
        rw [ho, hb, addrBytes_wordOf]
        rfl

/-! ### The opcode lists of R54 -/

/-- An opcode byte stands in the list of R54 that its entry's format calls for, and in no other. -/
def Form.listed (op : Byte) : Form → Bool
  | .f1 _ => op ∈ oneByteOpcodes && op ∉ twoByteOpcodes && op ∉ threeByteOpcodes
  | .f2 _ => op ∉ oneByteOpcodes && op ∈ twoByteOpcodes && op ∉ threeByteOpcodes
  | .f3 _ => op ∉ oneByteOpcodes && op ∉ twoByteOpcodes && op ∈ threeByteOpcodes
  | .marker _ => op ∉ oneByteOpcodes && op ∉ twoByteOpcodes && op ∉ threeByteOpcodes

/-- Every entry of the matrix, by its row and column (R53). -/
theorem formOf_listed_at : ∀ row < 16, ∀ col < 16,
    (formOf (BitVec.ofNat 8 (16 * row + col))).listed (BitVec.ofNat 8 (16 * row + col)) = true := by
  decide

/-- Every opcode byte stands in the list of its format alone (R54). -/
theorem formOf_listed (op : Byte) : (formOf op).listed op = true := by
  have := formOf_listed_at (op.toNat / 16) (by omega) (op.toNat % 16) (by omega)
  rwa [Nat.div_add_mod, BitVec.ofNat_toNat, BitVec.setWidth_eq] at this

theorem mem_oneByteOpcodes_iff {op : Byte} : op ∈ oneByteOpcodes ↔ ∃ i, formOf op = .f1 i := by
  have := formOf_listed op
  cases hf : formOf op <;> simp_all [Form.listed]

theorem mem_twoByteOpcodes_iff {op : Byte} : op ∈ twoByteOpcodes ↔ ∃ mk, formOf op = .f2 mk := by
  have := formOf_listed op
  cases hf : formOf op <;> simp_all [Form.listed]

theorem mem_threeByteOpcodes_iff {op : Byte} : op ∈ threeByteOpcodes ↔ ∃ mk, formOf op = .f3 mk := by
  have := formOf_listed op
  cases hf : formOf op <;> simp_all [Form.listed]

theorem mem_implementedOpcodes_iff {op : Byte} :
    op ∈ implementedOpcodes ↔ op ∈ oneByteOpcodes ∨ op ∈ twoByteOpcodes ∨ op ∈ threeByteOpcodes := by
  rw [implementedOpcodes, List.mem_append, List.mem_append, or_assoc]

theorem not_mem_implementedOpcodes_iff {op : Byte} : op ∉ implementedOpcodes ↔ ∃ i, formOf op = .marker i := by
  rw [mem_implementedOpcodes_iff, mem_oneByteOpcodes_iff, mem_twoByteOpcodes_iff, mem_threeByteOpcodes_iff]
  cases formOf op <;> simp

/-! ### What an entry says of its instruction (R55, R57) -/

section
variable {op : Byte} {i : Instr}

theorem fits_of_f1 (h : formOf op = .f1 i) :
    i.opcode = op ∧ i.implemented = true ∧ i.size = some 1 ∧ i.operandBytes = [] := by
  have := formFits op
  rwa [h] at this

theorem fits_of_f2 {mk : Byte → Instr} (h : formOf op = .f2 mk) (b : Byte) :
    (mk b).opcode = op ∧ (mk b).implemented = true ∧ (mk b).size = some 2 ∧ (mk b).operandBytes = [b] := by
  have := formFits op
  rw [h] at this
  exact this b

theorem fits_of_f3 {mk : Addr → Instr} (h : formOf op = .f3 mk) (a : Addr) :
    (mk a).opcode = op ∧ (mk a).implemented = true ∧ (mk a).size = some 3 ∧ (mk a).operandBytes = addrBytes a := by
  have := formFits op
  rw [h] at this
  exact this a

theorem fits_of_marker (h : formOf op = .marker i) :
    i.opcode = op ∧ i.implemented = false ∧ i.operandBytes = [] := by
  have := formFits op
  rwa [h] at this

end

/-- An instruction is implemented exactly when its opcode byte is listed (R54, R57). -/
theorem implemented_iff (i : Instr) : i.implemented = true ↔ i.opcode ∈ implementedOpcodes := by
  rw [← not_iff_not, not_mem_implementedOpcodes_iff]
  obtain ⟨hf, -⟩ | ⟨hf, -⟩ | ⟨mk, b, hf, rfl, -⟩ | ⟨mk, a, hf, rfl, -⟩ := i.form_cases
  · obtain ⟨-, hi, -⟩ := fits_of_f1 hf
    simp [hf, hi]
  · obtain ⟨-, hi, -⟩ := fits_of_marker hf
    simp [hf, hi]
  · obtain ⟨-, hi, -⟩ := fits_of_f2 hf b
    simp [hf, hi]
  · obtain ⟨-, hi, -⟩ := fits_of_f3 hf a
    simp [hf, hi]

/-- Settles O8, list by list: each is a format of the matrix, which says how many bytes are read. -/
theorem opcodeByteTellsTheLength : Obligations.OpcodeByteTellsTheLength := by
  intro op b1 b2 rest
  refine ⟨fun h => ?_, fun h => ?_, fun h => ?_, fun h => ?_⟩
  · obtain ⟨i, hf⟩ := mem_oneByteOpcodes_iff.1 h
    obtain ⟨ho, hi, hs, -⟩ := fits_of_f1 hf
    exact ⟨i, decode_of_f1 hf _, ho, hi, hs⟩
  · obtain ⟨mk, hf⟩ := mem_twoByteOpcodes_iff.1 h
    exact ⟨mk b1, decode_of_f2 hf b1 _, fits_of_f2 hf b1⟩
  · obtain ⟨mk, hf⟩ := mem_threeByteOpcodes_iff.1 h
    obtain ⟨ho, hi, hs, hb⟩ := fits_of_f3 hf (wordOf b1 b2)
    exact ⟨mk (wordOf b1 b2), decode_of_f3 hf b1 b2 rest, ho, hi, hs, hb.trans (addrBytes_wordOf b1 b2)⟩
  · obtain ⟨i, hf⟩ := not_mem_implementedOpcodes_iff.1 h
    obtain ⟨ho, hi, -⟩ := fits_of_marker hf
    exact ⟨i, decode_of_marker hf _, ho, hi⟩

/-- Settles O9: each sequence is a concrete one, which the decoder reads. -/
theorem specWordsDecode : Obligations.SpecWordsDecode := by
  unfold Obligations.SpecWordsDecode
  decide

end Sys2Proof
end

section
/-! SUPPORT. Which instructions execute and which raise UnimplementedOpcode (R54, R57, R135), and the descriptor path: which
descriptors are well-formed and what they execute (R26, R27, R52). -/

namespace Sys2Proof.Machine

open Sys2Proof.Claims

/-! ### Executing an instruction, by its entry (R53) -/

/-- An implemented instruction completes in every state. -/
theorem exec_of_implemented {i : Instr} (hi : i.implemented = true) (s : State) : ∃ t, exec i s = .next t := by
  rw [← handlerOf_isSome, Option.isSome_iff_exists] at hi
  obtain ⟨h, hh⟩ := hi
  exact ⟨_, exec_of_handler hh s⟩

/-- An instruction with the marker raises UnimplementedOpcode in every state. -/
theorem exec_of_not_implemented {i : Instr} (hi : i.implemented = false) (s : State) :
    exec i s = .fault (.unimplementedOpcode i.opcode) := by
  rw [← handlerOf_isSome, Option.isSome_eq_false_iff, Option.isNone_iff_eq_none] at hi
  exact exec_of_no_handler hi s

/-- Executing any instruction completes or raises UnimplementedOpcode. -/
theorem exec_cases (i : Instr) (s : State) :
    (∃ t, exec i s = .next t) ∨ exec i s = .fault (.unimplementedOpcode i.opcode) := by
  cases hi : i.implemented with
  | true => exact .inl (exec_of_implemented hi s)
  | false => exact .inr (exec_of_not_implemented hi s)

/-- Settles O18: the listed opcode bytes are the implemented entries, and the counts are finite facts. -/
theorem exactlyTheListedOpcodesExecute : Obligations.ExactlyTheListedOpcodesExecute := by
  refine ⟨fun i s => ⟨fun h => ?_, fun h => ?_⟩, by decide, by decide, rfl⟩
  · exact exec_of_implemented ((implemented_iff i).2 h) s
  · rw [← implemented_iff, Bool.not_eq_true] at h
    exact exec_of_not_implemented h s

/-- What RaiseUnimplemented asks of an entry of its list, as a check on the opcode table alone. -/
def markedWith (p : Instr × Byte) : Bool := encode p.1 = [p.2] && !p.1.implemented

/-- Instructions with the marker raise UnimplementedOpcode with the one byte they are encoded by (R135). -/
theorem raiseUnimplemented_of_marked {l : List (Instr × Byte)} (h : l.all markedWith = true) : RaiseUnimplemented l := by
  intro p hp s
  have hm := List.all_eq_true.1 h p hp
  simp only [markedWith, Bool.and_eq_true, decide_eq_true_eq, Bool.not_eq_true'] at hm
  obtain ⟨he, hi⟩ := hm
  have hx := exec_of_not_implemented hi s
  obtain ⟨ho, -⟩ := List.cons_eq_cons.1 he
  rw [ho] at hx
  exact ⟨he, hx, by rw [hx]; rfl⟩

/-- Settles O20: each listed instruction has the marker. -/
theorem unlistedArithmeticMnemonicsFault : Obligations.UnlistedArithmeticMnemonicsFault :=
  raiseUnimplemented_of_marked rfl

/-- Settles O21: each listed instruction has the marker. -/
theorem unlistedSystemMnemonicsAndFormsFault : Obligations.UnlistedSystemMnemonicsAndFormsFault :=
  raiseUnimplemented_of_marked rfl

/-- Settles O22: each listed instruction has the marker. -/
theorem unofficialOpcodesFault : Obligations.UnofficialOpcodesFault :=
  raiseUnimplemented_of_marked rfl

/-! ### The instruction of an opcode byte and a value (R52) -/

section
variable {op : Byte} {i : Instr}

theorem instrOf_of_f1 (h : formOf op = .f1 i) (v : Nat) : instrOf op v = i := by
  simp only [instrOf, h]

theorem instrOf_of_marker (h : formOf op = .marker i) (v : Nat) : instrOf op v = i := by
  simp only [instrOf, h]

theorem instrOf_of_f2 {mk : Byte → Instr} (h : formOf op = .f2 mk) (v : Nat) : instrOf op v = mk (u8 v) := by
  simp only [instrOf, h]

theorem instrOf_of_f3 {mk : Addr → Instr} (h : formOf op = .f3 mk) (v : Nat) :
    instrOf op v = mk (BitVec.ofNat 16 v) := by
  simp only [instrOf, h]

end

theorem opcode_instrOf (op : Byte) (v : Nat) : (instrOf op v).opcode = op := by
  cases hf : formOf op with
  | f1 i =>
    rw [instrOf_of_f1 hf]
    exact (fits_of_f1 hf).1
  | f2 mk =>
    rw [instrOf_of_f2 hf]
    exact (fits_of_f2 hf _).1
  | f3 mk =>
    rw [instrOf_of_f3 hf]
    exact (fits_of_f3 hf _).1
  | marker i =>
    rw [instrOf_of_marker hf]
    exact (fits_of_marker hf).1

/-- The instruction of an instruction's opcode byte and operand value is this instruction (R52). -/
theorem instrOf_opcode_leValue (i : Instr) : instrOf i.opcode (leValue i.operandBytes) = i := by
  obtain ⟨hf, -⟩ | ⟨hf, -⟩ | ⟨mk, b, hf, hi, hb⟩ | ⟨mk, a, hf, hi, hb⟩ := i.form_cases
  · exact instrOf_of_f1 hf _
  · exact instrOf_of_marker hf _
  · have hv : leValue [b] = b.toNat := by simp [leValue]
    rw [instrOf_of_f2 hf, hb, hv, u8_toNat, hi]
  · have hv : leValue (addrBytes a) = (loByte a).toNat + 256 * (hiByte a).toNat := by simp [leValue, addrBytes]
    rw [instrOf_of_f3 hf, hb, hv, ofNat_leBytes, wordOf_lo_hi, hi]

/-! ### Well-formed descriptors (R27) -/

section
variable {d : Descriptor} {i : Instr}

/-- For an implemented entry the check is on the opcode and on the fields beside it. -/
theorem wellFormed_of_implemented {n : Nat} (hi : (instrOf (u8 d.opcode) 0).implemented = true)
    (hn : (instrOf (u8 d.opcode) 0).size = some n) :
    d.wellFormed = true ↔ d.opcode < 256 ∧ d.size = n ∧ d.operandBytes.length = n - 1 ∧ d.value < 256 ^ (n - 1) := by
  simp only [Descriptor.wellFormed, hi, hn, Descriptor.operandFits, Bool.and_eq_true, decide_eq_true_eq, beq_iff_eq]
  constructor
  · rintro ⟨ho, ⟨rfl, hl⟩, hv⟩
    exact ⟨ho, rfl, hl, hv⟩
  · rintro ⟨ho, rfl, hl, hv⟩
    exact ⟨ho, ⟨rfl, hl⟩, hv⟩

/-- For an entry with the marker the check is on the opcode alone (decision D17). -/
theorem wellFormed_of_marker (h : formOf (u8 d.opcode) = .marker i) : d.wellFormed = true ↔ d.opcode < 256 := by
  obtain ⟨-, hi, -⟩ := fits_of_marker h
  simp only [Descriptor.wellFormed, instrOf_of_marker h, hi, Bool.and_true, decide_eq_true_eq]

theorem wellFormed_of_f1 (h : formOf (u8 d.opcode) = .f1 i) :
    d.wellFormed = true ↔ d.opcode < 256 ∧ d.size = 1 ∧ d.operandBytes.length = 0 ∧ d.value = 0 := by
  obtain ⟨-, hi, hn, -⟩ := fits_of_f1 h
  rw [← instrOf_of_f1 h 0] at hi hn
  rw [wellFormed_of_implemented hi hn, show (256 : Nat) ^ (1 - 1) = 1 from rfl, Nat.lt_one_iff]

theorem wellFormed_of_f2 {mk : Byte → Instr} (h : formOf (u8 d.opcode) = .f2 mk) :
    d.wellFormed = true ↔ d.opcode < 256 ∧ d.size = 2 ∧ d.operandBytes.length = 1 ∧ d.value ≤ 0xFF := by
  obtain ⟨-, hi, hn, -⟩ := fits_of_f2 h (u8 0)
  rw [← instrOf_of_f2 h] at hi hn
  rw [wellFormed_of_implemented hi hn, show (256 : Nat) ^ (2 - 1) = 0xFF + 1 from rfl, Nat.lt_succ_iff (m := d.value)]

theorem wellFormed_of_f3 {mk : Addr → Instr} (h : formOf (u8 d.opcode) = .f3 mk) :
    d.wellFormed = true ↔ d.opcode < 256 ∧ d.size = 3 ∧ d.operandBytes.length = 2 ∧ d.value ≤ 0xFFFF := by
  obtain ⟨-, hi, hn, -⟩ := fits_of_f3 h (BitVec.ofNat 16 0)
  rw [← instrOf_of_f3 h] at hi hn
  rw [wellFormed_of_implemented hi hn, show (256 : Nat) ^ (3 - 1) = 0xFFFF + 1 from rfl, Nat.lt_succ_iff (m := d.value)]

/-- `Step` of a well-formed descriptor executes its instruction (R27, R176). -/
theorem stepDescriptor_of_wellFormed (h : d.wellFormed = true) (s : State) : stepDescriptor d s = exec d.instr s :=
  if_pos h

end

/-- Settles O15: well-formedness by the format of the opcode's entry; a well-formed descriptor is executed, which is never
refused and reads its opcode and value alone. -/
theorem onlyWellFormedDescriptorsAreExecuted : Obligations.OnlyWellFormedDescriptorsAreExecuted := by
  intro d s
  refine ⟨?_, fun h => if_neg (by simp [h]), fun h r => ?_, fun h e he ho hv => ?_⟩
  · rw [mem_oneByteOpcodes_iff, mem_twoByteOpcodes_iff, mem_threeByteOpcodes_iff]
    cases hf : formOf (u8 d.opcode) with
    | f1 i => simp [wellFormed_of_f1 hf]
    | f2 mk => simp [wellFormed_of_f2 hf]
    | f3 mk => simp [wellFormed_of_f3 hf]
    | marker i => simp [wellFormed_of_marker hf]
  · rw [stepDescriptor_of_wellFormed h]
    exact exec_ne_refused _ s r
  · rw [stepDescriptor_of_wellFormed h, stepDescriptor_of_wellFormed he, Descriptor.instr, Descriptor.instr, ho, hv]

/-! ### The descriptor of an instruction (R26, R52) -/

/-- The size of an implemented instruction is the number of bytes it is encoded by (R55). -/
theorem size_of_implemented {i : Instr} (hi : i.implemented = true) : i.size = some (encode i).length := by
  rw [encode, List.length_cons]
  obtain ⟨hf, hb⟩ | ⟨hf, -⟩ | ⟨mk, b, hf, rfl, hb⟩ | ⟨mk, a, hf, rfl, hb⟩ := i.form_cases
  · obtain ⟨-, -, hs, -⟩ := fits_of_f1 hf
    rw [hs, hb]
    rfl
  · obtain ⟨-, hn, -⟩ := fits_of_marker hf
    rw [hn] at hi
    cases hi
  · obtain ⟨-, -, hs, -⟩ := fits_of_f2 hf b
    rw [hs, hb]
    rfl
  · obtain ⟨-, -, hs, -⟩ := fits_of_f3 hf a
    rw [hs, hb]
    rfl

theorem descriptor_instr (i : Instr) : i.descriptor.instr = i := by
  show instrOf (u8 i.opcode.toNat) (leValue i.operandBytes) = i
  rw [u8_toNat, instrOf_opcode_leValue]

/-- The descriptor of an implemented instruction is well-formed, by its format. -/
theorem descriptor_wellFormed {i : Instr} (hi : i.implemented = true) : i.descriptor.wellFormed = true := by
  have ho : u8 i.descriptor.opcode = i.opcode := u8_toNat i.opcode
  have hlt : i.descriptor.opcode < 256 := i.opcode.isLt
  obtain ⟨hf, hb⟩ | ⟨hf, -⟩ | ⟨mk, b, hf, -, hb⟩ | ⟨mk, a, hf, -, hb⟩ := i.form_cases
  · rw [wellFormed_of_f1 (ho ▸ hf)]
    exact ⟨hlt, by simp [Instr.descriptor, hb], by simp [Instr.descriptor, hb], by simp [Instr.descriptor, hb, leValue]⟩
  · obtain ⟨-, hn, -⟩ := fits_of_marker hf
    rw [hn] at hi
    cases hi
  · rw [wellFormed_of_f2 (ho ▸ hf)]
    have := b.isLt
    refine ⟨hlt, by simp [Instr.descriptor, hb], by simp [Instr.descriptor, hb], ?_⟩
    simp only [Instr.descriptor, hb, leValue]
    omega
  · rw [wellFormed_of_f3 (ho ▸ hf)]
    have := (loByte a).isLt
    have := (hiByte a).isLt
    refine ⟨hlt, by simp [Instr.descriptor, hb, addrBytes], by simp [Instr.descriptor, hb, addrBytes], ?_⟩
    simp only [Instr.descriptor, hb, addrBytes, leValue]
    omega

/-- `Step` of an implemented instruction's descriptor executes the instruction, whatever `PC` and the image are (R26). -/
theorem stepDescriptor_descriptor {i : Instr} (hi : i.implemented = true) (s : State) :
    stepDescriptor i.descriptor s = exec i s := by
  rw [stepDescriptor_of_wellFormed (descriptor_wellFormed hi), descriptor_instr]

/-- Settles O16: the descriptor's fields are the operand bytes' length and little-endian value, which make the instruction
again. -/
theorem descriptorPathExecutesTheInstruction : Obligations.DescriptorPathExecutesTheInstruction := by
  intro i s hi
  have hl : i.descriptor.size = (encode i).length := Nat.add_comm ..
  refine ⟨descriptor_wellFormed hi, rfl, by rw [hl, size_of_implemented hi], hl, fun b hb => ?_, fun b c hb => ?_,
    stepDescriptor_descriptor hi s⟩
  · show leValue i.operandBytes = _
    rw [hb]
    rfl
  · show leValue i.operandBytes = _
    rw [hb]
    rfl

/-- A descriptor whose opcode is a byte with the marker is well-formed, and raises UnimplementedOpcode (R57, R135). -/
theorem stepDescriptor_of_marked {d : Descriptor} {op : Byte} (hop : op ∉ implementedOpcodes) (ho : d.opcode = op.toNat)
    (s : State) : stepDescriptor d s = .fault (.unimplementedOpcode op) := by
  obtain ⟨i, hf⟩ := not_mem_implementedOpcodes_iff.1 hop
  have hu : u8 d.opcode = op := by rw [ho, u8_toNat]
  have hw : d.wellFormed = true := (wellFormed_of_marker (hu ▸ hf)).2 (ho ▸ op.isLt)
  obtain ⟨hio, hi, -⟩ := fits_of_marker hf
  rw [stepDescriptor_of_wellFormed hw, Descriptor.instr, hu, instrOf_of_marker hf, exec_of_not_implemented hi, hio]

end Sys2Proof.Machine
end

section
/-! SUPPORT. The ROM-driven path, format by format: what FetchDecode builds and what a step does (R42, R43, R165, R176); and
placing a word of the opcode table where fetch reads. -/

namespace Sys2Proof.Machine

open Sys2Proof.Claims

/-! ### A step, by the bytes it finds from `Translate(PC)` on (R43) -/

section
variable {s : State} {op b1 b2 : Byte} {i : Instr} {mkB : Byte → Instr} {mkA : Addr → Instr}

theorem step_of_none (h0 : s.romRead (translateAddress s.pc) = none) :
    step s = .fault (.outOfRange (translateAddress s.pc)) := by
  rw [step_eq, State.fetch_eq, h0]

theorem step_of_f1 (h0 : s.romRead (translateAddress s.pc) = some op) (hf : formOf op = .f1 i) : step s = exec i s := by
  simp only [step_eq, State.fetch_eq, h0, hf]

theorem step_of_marker (h0 : s.romRead (translateAddress s.pc) = some op) (hf : formOf op = .marker i) :
    step s = exec i s := by
  simp only [step_eq, State.fetch_eq, h0, hf]

theorem step_of_f2 (h0 : s.romRead (translateAddress s.pc) = some op) (hf : formOf op = .f2 mkB)
    (h1 : s.romRead (translateAddress s.pc + 1) = some b1) : step s = exec (mkB b1) s := by
  simp only [step_eq, State.fetch_eq, h0, hf, h1]

theorem step_of_f3 (h0 : s.romRead (translateAddress s.pc) = some op) (hf : formOf op = .f3 mkA)
    (h1 : s.romRead (translateAddress s.pc + 1) = some b1) (h2 : s.romRead (translateAddress s.pc + 2) = some b2) :
    step s = exec (mkA (wordOf b1 b2)) s := by
  simp only [step_eq, State.fetch_eq, h0, hf, h1, h2]

theorem step_of_f2_none (h0 : s.romRead (translateAddress s.pc) = some op) (hf : formOf op = .f2 mkB)
    (h1 : s.romRead (translateAddress s.pc + 1) = none) :
    step s = .fault (.outOfRange (translateAddress s.pc + 1)) := by
  simp only [step_eq, State.fetch_eq, h0, hf, h1]

theorem step_of_f3_none (h0 : s.romRead (translateAddress s.pc) = some op) (hf : formOf op = .f3 mkA)
    (h1 : s.romRead (translateAddress s.pc + 1) = none) :
    step s = .fault (.outOfRange (translateAddress s.pc + 1)) := by
  simp only [step_eq, State.fetch_eq, h0, hf, h1]

theorem step_of_f3_some_none (h0 : s.romRead (translateAddress s.pc) = some op) (hf : formOf op = .f3 mkA)
    (h1 : s.romRead (translateAddress s.pc + 1) = some b1) (h2 : s.romRead (translateAddress s.pc + 2) = none) :
    step s = .fault (.outOfRange (translateAddress s.pc + 2)) := by
  simp only [step_eq, State.fetch_eq, h0, hf, h1, h2]

/-- A step that fetches an opcode byte with the marker raises UnimplementedOpcode: no operand byte is read (R135). -/
theorem step_of_marked (h0 : s.romRead (translateAddress s.pc) = some op) (hop : op ∉ implementedOpcodes) :
    step s = .fault (.unimplementedOpcode op) := by
  obtain ⟨i, hf⟩ := not_mem_implementedOpcodes_iff.1 hop
  obtain ⟨hio, hi, -⟩ := fits_of_marker hf
  rw [step_of_marker h0 hf, exec_of_not_implemented hi, hio]

/-! ### FetchDecode, by the bytes it finds (R43) -/

theorem fetchDecode_of_none (h0 : s.romRead (translateAddress s.pc) = none) :
    s.fetchDecode = .error (.outOfRange (translateAddress s.pc)) := by
  simp only [State.fetchDecode, h0]

theorem fetchDecode_of_f1 (h0 : s.romRead (translateAddress s.pc) = some op) (hf : formOf op = .f1 i) :
    s.fetchDecode = .ok ⟨op.toNat, 1, [], 0⟩ := by
  obtain ⟨-, hi, hs, -⟩ := fits_of_f1 hf
  simp only [State.fetchDecode, h0, instrOf_of_f1 hf, hi, hs]

theorem fetchDecode_of_marker (h0 : s.romRead (translateAddress s.pc) = some op) (hf : formOf op = .marker i) :
    s.fetchDecode = .error (.unimplementedOpcode op) := by
  obtain ⟨-, hi, -⟩ := fits_of_marker hf
  simp only [State.fetchDecode, h0, instrOf_of_marker hf, hi]

theorem fetchDecode_of_f2 (h0 : s.romRead (translateAddress s.pc) = some op) (hf : formOf op = .f2 mkB)
    (h1 : s.romRead (translateAddress s.pc + 1) = some b1) : s.fetchDecode = .ok ⟨op.toNat, 2, [b1], b1.toNat⟩ := by
  obtain ⟨-, hi, hs, -⟩ := fits_of_f2 hf (u8 0)
  simp only [State.fetchDecode, h0, instrOf_of_f2 hf, hi, hs, h1]

theorem fetchDecode_of_f2_none (h0 : s.romRead (translateAddress s.pc) = some op) (hf : formOf op = .f2 mkB)
    (h1 : s.romRead (translateAddress s.pc + 1) = none) :
    s.fetchDecode = .error (.outOfRange (translateAddress s.pc + 1)) := by
  obtain ⟨-, hi, hs, -⟩ := fits_of_f2 hf (u8 0)
  simp only [State.fetchDecode, h0, instrOf_of_f2 hf, hi, hs, h1]

theorem fetchDecode_of_f3 (h0 : s.romRead (translateAddress s.pc) = some op) (hf : formOf op = .f3 mkA)
    (h1 : s.romRead (translateAddress s.pc + 1) = some b1) (h2 : s.romRead (translateAddress s.pc + 2) = some b2) :
    s.fetchDecode = .ok ⟨op.toNat, 3, [b1, b2], b1.toNat + 256 * b2.toNat⟩ := by
  obtain ⟨-, hi, hs, -⟩ := fits_of_f3 hf (BitVec.ofNat 16 0)
  simp only [State.fetchDecode, h0, instrOf_of_f3 hf, hi, hs, h1, h2]

theorem fetchDecode_of_f3_none (h0 : s.romRead (translateAddress s.pc) = some op) (hf : formOf op = .f3 mkA)
    (h1 : s.romRead (translateAddress s.pc + 1) = none) :
    s.fetchDecode = .error (.outOfRange (translateAddress s.pc + 1)) := by
  obtain ⟨-, hi, hs, -⟩ := fits_of_f3 hf (BitVec.ofNat 16 0)
  simp only [State.fetchDecode, h0, instrOf_of_f3 hf, hi, hs, h1]

theorem fetchDecode_of_f3_some_none (h0 : s.romRead (translateAddress s.pc) = some op) (hf : formOf op = .f3 mkA)
    (h1 : s.romRead (translateAddress s.pc + 1) = some b1) (h2 : s.romRead (translateAddress s.pc + 2) = none) :
    s.fetchDecode = .error (.outOfRange (translateAddress s.pc + 2)) := by
  obtain ⟨-, hi, hs, -⟩ := fits_of_f3 hf (BitVec.ofNat 16 0)
  simp only [State.fetchDecode, h0, instrOf_of_f3 hf, hi, hs, h1, h2]

theorem descriptor_of_f1 (hf : formOf op = .f1 i) : i.descriptor = ⟨op.toNat, 1, [], 0⟩ := by
  obtain ⟨ho, -, -, hb⟩ := fits_of_f1 hf
  simp [Instr.descriptor, ho, hb, leValue]

theorem descriptor_of_f2 (hf : formOf op = .f2 mkB) (b : Byte) : (mkB b).descriptor = ⟨op.toNat, 2, [b], b.toNat⟩ := by
  obtain ⟨ho, -, -, hb⟩ := fits_of_f2 hf b
  simp [Instr.descriptor, ho, hb, leValue]

theorem descriptor_of_f3 (hf : formOf op = .f3 mkA) (lo hi : Byte) :
    (mkA (wordOf lo hi)).descriptor = ⟨op.toNat, 3, [lo, hi], lo.toNat + 256 * hi.toNat⟩ := by
  obtain ⟨ho, -, -, hb⟩ := fits_of_f3 hf (wordOf lo hi)
  simp [Instr.descriptor, ho, hb, addrBytes_wordOf, leValue]

end

/-- RomStep is FetchDecode, then `Step` of its descriptor (R43): they read the same bytes, and the descriptor is the one of the
instruction the step executes. -/
theorem step_eq_fetchDecode (s : State) :
    (∃ d, s.fetchDecode = .ok d ∧ step s = stepDescriptor d s) ∨ ∃ f, s.fetchDecode = .error f ∧ step s = .fault f := by
  cases h0 : s.romRead (translateAddress s.pc) with
  | none => exact .inr ⟨_, fetchDecode_of_none h0, step_of_none h0⟩
  | some op =>
    cases hf : formOf op with
    | f1 i =>
      obtain ⟨-, hi, -⟩ := fits_of_f1 hf
      exact .inl ⟨_, fetchDecode_of_f1 h0 hf,
        by rw [step_of_f1 h0 hf, ← descriptor_of_f1 hf, stepDescriptor_descriptor hi]⟩
    | marker i =>
      exact .inr ⟨_, fetchDecode_of_marker h0 hf, step_of_marked h0 (not_mem_implementedOpcodes_iff.2 ⟨i, hf⟩)⟩
    | f2 mk =>
      cases h1 : s.romRead (translateAddress s.pc + 1) with
      | none => exact .inr ⟨_, fetchDecode_of_f2_none h0 hf h1, step_of_f2_none h0 hf h1⟩
      | some b1 =>
        obtain ⟨-, hi, -⟩ := fits_of_f2 hf b1
        exact .inl ⟨_, fetchDecode_of_f2 h0 hf h1,
          by rw [step_of_f2 h0 hf h1, ← descriptor_of_f2 hf, stepDescriptor_descriptor hi]⟩
    | f3 mk =>
      cases h1 : s.romRead (translateAddress s.pc + 1) with
      | none => exact .inr ⟨_, fetchDecode_of_f3_none h0 hf h1, step_of_f3_none h0 hf h1⟩
      | some b1 =>
        cases h2 : s.romRead (translateAddress s.pc + 2) with
        | none => exact .inr ⟨_, fetchDecode_of_f3_some_none h0 hf h1 h2, step_of_f3_some_none h0 hf h1 h2⟩
        | some b2 =>
          obtain ⟨-, hi, -⟩ := fits_of_f3 hf (wordOf b1 b2)
          exact .inl ⟨_, fetchDecode_of_f3 h0 hf h1 h2,
            by rw [step_of_f3 h0 hf h1 h2, ← descriptor_of_f3 hf, stepDescriptor_descriptor hi]⟩

/-- An operation that faults leaves the state as it was (R166). -/
theorem hostRun_of_fault {op : HostOp} {s : State} {f : Fault} (h : hostStep op s = .fault f) : hostRun op s = s := by
  rw [hostRun, h]
  rfl

/-- Settles O12: the equation by the bytes that both read, and each case of FetchDecode by the format its list stands for. -/
theorem romStepIsFetchDecodeThenStep : Obligations.RomStepIsFetchDecodeThenStep := by
  intro s
  refine ⟨?_, fun f hd => ?_, fetchDecode_of_none, fun op h0 => ⟨fun h => ?_, fun h => ?_, fun h => ?_, fun h => ?_⟩⟩
  · obtain ⟨d, hd, hs⟩ | ⟨f, hd, hs⟩ := step_eq_fetchDecode s
    · rw [hd]
      exact hs
    · rw [hd]
      exact hs
  · obtain ⟨d, hd', -⟩ | ⟨g, -, hs⟩ := step_eq_fetchDecode s
    · rw [hd'] at hd
      cases hd
    · exact hostRun_of_fault (op := .romStep) hs
  · obtain ⟨i, hf⟩ := not_mem_implementedOpcodes_iff.1 h
    exact fetchDecode_of_marker h0 hf
  · obtain ⟨i, hf⟩ := mem_oneByteOpcodes_iff.1 h
    exact fetchDecode_of_f1 h0 hf
  · obtain ⟨mk, hf⟩ := mem_twoByteOpcodes_iff.1 h
    exact ⟨fetchDecode_of_f2_none h0 hf, fun b1 => fetchDecode_of_f2 h0 hf⟩
  · obtain ⟨mk, hf⟩ := mem_threeByteOpcodes_iff.1 h
    exact ⟨fetchDecode_of_f3_none h0 hf,
      fun b1 h1 => ⟨fetchDecode_of_f3_some_none h0 hf h1, fun b2 => fetchDecode_of_f3 h0 hf h1⟩⟩

/-- A step that finds the three bytes it may need executes an instruction. -/
theorem step_of_bytes {s : State} {op b1 b2 : Byte} (h0 : s.romRead (translateAddress s.pc) = some op)
    (h1 : s.romRead (translateAddress s.pc + 1) = some b1) (h2 : s.romRead (translateAddress s.pc + 2) = some b2) :
    ∃ i, step s = exec i s := by
  cases hf : formOf op with
  | f1 i => exact ⟨i, step_of_f1 h0 hf⟩
  | marker i => exact ⟨i, step_of_marker h0 hf⟩
  | f2 mk => exact ⟨mk b1, step_of_f2 h0 hf h1⟩
  | f3 mk => exact ⟨mk (wordOf b1 b2), step_of_f3 h0 hf h1 h2⟩

/-- Settles O13: a step by the format of its opcode byte; `Step(d)` and `Load` by what they can answer at all. -/
theorem firstFaultMetIsRaised : Obligations.FirstFaultMetIsRaised := by
  refine ⟨fun s => ⟨step_of_none, fun op h0 => ⟨step_of_marked h0, ?_, ?_, ?_, ?_, ?_⟩⟩, fun s d hd => ?_,
    fun s file => (load_cases file s).imp_left fun ⟨_, h⟩ => ⟨_, h⟩⟩
  · intro h
    obtain ⟨i, hf⟩ := mem_oneByteOpcodes_iff.1 h
    obtain ⟨-, hi, -⟩ := fits_of_f1 hf
    rw [step_of_f1 h0 hf]
    exact exec_of_implemented hi s
  · intro h h1
    rw [List.mem_append, mem_twoByteOpcodes_iff, mem_threeByteOpcodes_iff] at h
    obtain ⟨mk, hf⟩ | ⟨mk, hf⟩ := h
    · exact step_of_f2_none h0 hf h1
    · exact step_of_f3_none h0 hf h1
  · intro h h1
    obtain ⟨mk, hf⟩ := mem_twoByteOpcodes_iff.1 h
    obtain ⟨b1, h1⟩ := Option.ne_none_iff_exists'.1 h1
    obtain ⟨-, hi, -⟩ := fits_of_f2 hf b1
    rw [step_of_f2 h0 hf h1]
    exact exec_of_implemented hi s
  · intro h h1 h2
    obtain ⟨mk, hf⟩ := mem_threeByteOpcodes_iff.1 h
    obtain ⟨b1, h1⟩ := Option.ne_none_iff_exists'.1 h1
    exact step_of_f3_some_none h0 hf h1 h2
  · intro h h1 h2
    obtain ⟨mk, hf⟩ := mem_threeByteOpcodes_iff.1 h
    obtain ⟨b1, h1⟩ := Option.ne_none_iff_exists'.1 h1
    obtain ⟨b2, h2⟩ := Option.ne_none_iff_exists'.1 h2
    obtain ⟨-, hi, -⟩ := fits_of_f3 hf (wordOf b1 b2)
    rw [step_of_f3 h0 hf h1 h2]
    exact exec_of_implemented hi s
  · rw [stepDescriptor_of_wellFormed hd]
    have ho : d.instr.opcode = u8 d.opcode := opcode_instrOf _ _
    exact ho ▸ exec_cases d.instr s

/-- Settles O19: the instruction with the marker, on the descriptor path and on the ROM-driven path; a fault leaves the state,
so the step repeats it. -/
theorem markedOpcodeFaultsAndChangesNothing : Obligations.MarkedOpcodeFaultsAndChangesNothing := by
  intro s op hop
  refine ⟨fun i hi => ?_, fun d hd => ?_, fun h0 => ?_⟩
  · have hn : i.implemented = false := by rwa [← hi, ← implemented_iff, Bool.not_eq_true] at hop
    rw [exec_of_not_implemented hn, hi]
  · have hs := stepDescriptor_of_marked hop hd s
    exact ⟨hs, hostRun_of_fault (op := .step d) hs⟩
  · have hs := step_of_marked h0 hop
    have hr : hostRun .romStep s = s := hostRun_of_fault (op := .romStep) hs
    exact ⟨hs, hr, by rw [hr, hs]⟩

/-! ### Reads of the program space (R42) -/

/-- RomRead answers at every offset inside `prgRom`. -/
theorem State.romRead_of_lt {s : State} {off : Int} (h0 : 0 ≤ off) (h : off < s.prgRom.size) :
    ∃ b, s.romRead off = some b ∧ s.prgRom.read? off.toNat = some b := by
  have hr : s.prgRom.read? off.toNat = some (Memory.read s.prgRom.cells off.toNat) := if_pos (by omega)
  exact ⟨_, State.romRead_eq_some.2 ⟨h0, hr⟩, hr⟩

/-- RomRead has no byte past the end of `prgRom`. -/
theorem State.romRead_of_ge {s : State} {off : Int} (h : (s.prgRom.size : Int) ≤ off) : s.romRead off = none := by
  have hr : s.prgRom.read? off.toNat = none := if_neg (by omega)
  rw [State.romRead, hr, ite_self]

/-- Settles O10, by the place of the offset. -/
theorem romReadIsBoundsChecked : Obligations.RomReadIsBoundsChecked := by
  refine fun s off => ⟨?_, State.romRead_of_lt, fun hc => ?_, step_of_none⟩
  · rintro (h | h)
    · exact State.romRead_neg h
    · exact State.romRead_of_ge h
  · rw [State.prgRom, hc]
    rfl

/-- Settles O11, by the format of the instruction, whose bytes are the ones the step finds. -/
theorem stepRunsTheEncodedInstruction : Obligations.StepRunsTheEncodedInstruction := by
  intro s i h
  have h0 : s.romRead (translateAddress s.pc) = some i.opcode := by simpa using h 0 i.opcode rfl
  rw [encode] at h
  obtain ⟨hf, -⟩ | ⟨hf, -⟩ | ⟨mk, b, hf, hi, hb⟩ | ⟨mk, a, hf, hi, hb⟩ := i.form_cases
  · exact step_of_f1 h0 hf
  · exact step_of_marker h0 hf
  · rw [hb] at h
    rw [step_of_f2 h0 hf (h 1 b rfl), hi]
  · rw [hb] at h
    rw [step_of_f3 h0 hf (h 1 (loByte a) rfl) (h 2 (hiByte a) rfl), wordOf_lo_hi, hi]

/-! ### The address translator (R40, R41) and a loaded image (R162) -/

theorem translateAddress_le (a : Addr) : translateAddress a ≤ 4863 := by
  rw [translateAddress_eq]
  omega

/-- Settles O34: the translator's formula on numbers, of which the rest is arithmetic. -/
theorem translateFormulaAndRange : Obligations.TranslateFormulaAndRange := by
  refine ⟨fun a => ?_, by decide⟩
  have hlt := a.isLt
  have h1 : (a + 1).toNat = (a.toNat + 1) % 65536 := BitVec.toNat_add ..
  have h2 : (a + 0x1000).toNat = (a.toNat + 4096) % 65536 := BitVec.toNat_add ..
  simp only [translateAddress_eq, h1, h2]
  omega

/-- Every fetch at an offset that is not negative finds its three bytes in an image with at least one PRG unit: the largest
offset is 4863 + 2 (R41). -/
theorem step_of_roomy {s : State} (hs : Config.prgUnit ≤ s.prgRom.size) (h : 0 ≤ translateAddress s.pc) :
    ∃ i, step s = exec i s := by
  have hle := translateAddress_le s.pc
  have hsz : (16384 : Int) ≤ s.prgRom.size := Int.ofNat_le.2 hs
  obtain ⟨op, h0, -⟩ := State.romRead_of_lt h (show _ < (s.prgRom.size : Int) by omega)
  obtain ⟨b1, h1, -⟩ := State.romRead_of_lt (s := s) (off := translateAddress s.pc + 1) (by omega) (by omega)
  obtain ⟨b2, h2, -⟩ := State.romRead_of_lt (s := s) (off := translateAddress s.pc + 2) (by omega) (by omega)
  exact step_of_bytes h0 h1 h2

/-- Settles O14: where the offset is not negative a loaded PRG unit holds every byte of the fetch, and elsewhere RomRead has no
byte; with no unit it never has one. -/
theorem loadedImageFaultsOnlyAtNegativeOffsets : Obligations.LoadedImageFaultsOnlyAtNegativeOffsets := by
  intro s img hs hc
  have hsz : s.prgRom.size = img.prgRomSize * Config.prgUnit := by
    rw [← (hs.image img hc).prgSize, State.prgRom, hc]
  have hneg (h : translateAddress s.pc < 0) : step s = .fault (.outOfRange (translateAddress s.pc)) :=
    step_of_none (State.romRead_neg h)
  refine ⟨fun hn => ⟨⟨fun hsafe => ?_, fun h => ?_⟩, hneg⟩, fun hn => ?_⟩
  · by_contra h
    rw [SafeStep, hneg (by omega)] at hsafe
    obtain ⟨t, ht⟩ | ⟨op, ht⟩ := hsafe
    · cases ht
    · cases ht
  · obtain ⟨i, hi⟩ := step_of_roomy (hsz ▸ Nat.le_mul_of_pos_left _ hn) h
    rw [SafeStep, hi]
    exact (exec_cases i s).imp_right fun h => ⟨_, h⟩
  · rw [hn, Nat.zero_mul] at hsz
    refine step_of_none ?_
    by_cases h : translateAddress s.pc < 0
    · exact State.romRead_neg h
    · exact State.romRead_of_ge (by omega)

/-! ### Placing a word of the opcode table (log entry 1) -/

/-- The bytes placed at `PC` stand where fetch reads them. -/
theorem romRead_placeAtPC {s : State} {bs : List Byte} (hl : bs.length ≤ 3) {k : Nat} {b : Byte} (hb : bs[k]? = some b) :
    (s.placeAtPC bs).romRead (translateAddress (s.placeAtPC bs).pc + k) = some b := by
  have h0 := s.placeAtPC_offset bs
  have hle := translateAddress_le (s.placeAtPC bs).pc
  have hsz : 16384 ≤ s.roomyImage.prgRom.size := s.roomyImage_size
  obtain ⟨hk, -⟩ := List.getElem?_eq_some_iff.1 hb
  refine State.romRead_eq_some.2 ⟨by omega, ?_⟩
  rw [State.placeAtPC_prgRom, Region.read?_patch _ _ _ _ (by omega), if_pos (by omega), ← hb]
  congr 1
  omega

/-- Settles O17: the placed word decodes to the instruction, so its encoding stands at `PC`, and the step runs it. -/
theorem placedWordIsExecutedNext : Obligations.PlacedWordIsExecutedNext := by
  intro s nbits w
  refine ⟨fun i hi => ?_, rfl, fun h => ?_⟩
  · refine stepRunsTheEncodedInstruction _ i fun k b hb => romRead_placeAtPC (bs := tableBytes nbits w) (Nat.le_refl 3) ?_
    unfold decodeTableWord at hi
    split at hi
    · next j rest hd =>
      cases hi
      rw [← encodeOfDecodeIsTheBytes _ _ _ hd]
      exact List.getElem?_append_left (List.getElem?_eq_some_iff.1 hb).1 ▸ hb
    · cases hi
  · rw [State.withFetchWord, State.placeAtPC_pc, if_neg (by omega)]

end Sys2Proof.Machine
end

section
/-! SUPPORT. Reset and the loader: the value of every element (R25, R180), and the regions of a loaded file (R36 to R38, R181). -/

namespace Sys2Proof.Machine

open Sys2Proof.Claims

/-! ### The header's fields, as bytes of the file (R36) -/

section
variable {file : List Byte} (hl : 16 ≤ file.length)

theorem trainerLength_headerOf : trainerLength (headerOf file hl)[6] = fileTrainerLength file := by
  rw [getElem_headerOf]
  rfl

theorem declaredLength_headerOf : declaredLength (headerOf file hl) = fileNeed file := by
  rw [declaredLength, trainerLength_headerOf, getElem_headerOf, getElem_headerOf]
  rfl

end

/-! ### The regions (R37) -/

/-- A slice that lies in the file makes a region that holds exactly its bytes. -/
theorem holdsBytes_slice {file : List Byte} {start n : Nat} (h : start + n ≤ file.length) :
    HoldsBytes (Region.ofBytes (slice file start n)) file start n :=
  ⟨length_slice h, fun k hk => by rw [Region.read?_ofBytes, getElem?_slice _ _ _ _ hk]⟩

/-- The PRG-ROM of a file's image holds the bytes after the header and the trainer. -/
theorem holdsBytes_prgRom {file : List Byte} (hl : 16 ≤ file.length) (hn : fileNeed file ≤ file.length) :
    HoldsBytes (imageOf file (headerOf file hl)).prgRom file (16 + fileTrainerLength file) ((file.getD 4 0).toNat * 16384) := by
  show HoldsBytes (Region.ofBytes (slice file (Config.headerSize + trainerLength (headerOf file hl)[6])
    ((headerOf file hl)[4].toNat * Config.prgUnit))) _ _ _
  rw [trainerLength_headerOf, getElem_headerOf]
  rw [fileNeed] at hn
  exact holdsBytes_slice (start := 16 + fileTrainerLength file) (n := (file.getD 4 0).toNat * 16384) (by omega)

/-- The CHR-ROM of a file's image holds the bytes after the PRG-ROM. -/
theorem holdsBytes_chrRom {file : List Byte} (hl : 16 ≤ file.length) (hn : fileNeed file ≤ file.length) :
    HoldsBytes (imageOf file (headerOf file hl)).chrRom file
      (16 + fileTrainerLength file + (file.getD 4 0).toNat * 16384) ((file.getD 5 0).toNat * 8192) := by
  show HoldsBytes (Region.ofBytes (slice file (Config.headerSize + trainerLength (headerOf file hl)[6] +
    (headerOf file hl)[4].toNat * Config.prgUnit) ((headerOf file hl)[5].toNat * Config.chrUnit))) _ _ _
  rw [trainerLength_headerOf, getElem_headerOf, getElem_headerOf]
  exact holdsBytes_slice hn

/-- The trainer of a file's image that has one holds the 512 bytes after the header. -/
theorem holdsBytes_trainer {file : List Byte} (hl : 16 ≤ file.length) (hn : fileNeed file ≤ file.length)
    (h6 : (headerOf file hl)[6].getLsbD 2 = true) :
    ∃ r, (imageOf file (headerOf file hl)).trainer = some r ∧ HoldsBytes r file 16 512 := by
  have ht : fileTrainerLength file = 512 := by
    rw [← trainerLength_headerOf hl, trainerLength, if_pos h6]
    rfl
  rw [fileNeed, ht] at hn
  exact ⟨_, if_pos h6, holdsBytes_slice (start := 16) (n := 512) (by omega)⟩

/-- Settles O35: a file that fails a test cannot have been loaded, and the image of one that passes them is cut from it region
by region. -/
theorem loadReadsTheDeclaredRegions : Obligations.LoadReadsTheDeclaredRegions := by
  intro file s
  constructor
  · intro hbad
    obtain ⟨img, h⟩ | h := load_cases file s
    · obtain ⟨hl, hm, hn, -⟩ := load_next h
      rw [declaredLength_headerOf] at hn
      obtain hb | hb | hb := hbad
      · omega
      · exact absurd hm hb
      · omega
    · exact ⟨h, hostRun_of_fault (op := .load file) h⟩
  · intro hl hm hn
    have h4 : (imageOf file (headerOf file hl)).prgRomSize = (file.getD 4 0).toNat :=
      congrArg BitVec.toNat (getElem_headerOf file hl 4 (by decide))
    have h5 : (imageOf file (headerOf file hl)).chrRomSize = (file.getD 5 0).toNat :=
      congrArg BitVec.toNat (getElem_headerOf file hl 5 (by decide))
    have hdecl : declaredLength (headerOf file hl) ≤ file.length := (declaredLength_headerOf hl).trans_le hn
    have hbyte := getElem_headerOf file hl
    refine ⟨imageOf file (headerOf file hl), load_of_tests hl hm hdecl s, toList_headerOf file hl, h4, h5,
      hbyte 6 (by decide), hbyte 7 (by decide), hbyte 8 (by decide), hbyte 9 (by decide), hbyte 10 (by decide),
      fun h6 => if_neg (Bool.eq_false_iff.1 h6), holdsBytes_trainer hl hn, ?_, ?_⟩
    · rw [h4]
      exact holdsBytes_prgRom hl hn
    · rw [h4, h5]
      exact holdsBytes_chrRom hl hn

/-- Settles O2: `Reset` keeps the loaded image, whose PRG-ROM begins at this byte of the file, and `Translate(0xC000)` is 0. -/
theorem firstFetchAfterResetIsFirstPrgByte : Obligations.FirstFetchAfterResetIsFirstPrgByte := by
  refine ⟨by decide, fun file s t u hload hprg hreset => ?_⟩
  obtain ⟨hl, -, hn, rfl⟩ := load_next hload
  cases hreset
  refine ⟨rfl, ?_⟩
  rw [declaredLength_headerOf] at hn
  obtain ⟨-, hread⟩ := holdsBytes_prgRom hl hn
  have hpos : 0 < (file.getD 4 0).toNat := Nat.pos_of_ne_zero fun h => hprg (BitVec.eq_of_toNat_eq h)
  show (if translateAddress 0xC000 < 0 then none
    else (imageOf file (headerOf file hl)).prgRom.read? (translateAddress 0xC000).toNat) = _
  rw [if_neg (by decide)]
  exact hread 0 (by omega)

/-- What `Reset` gives is the reset state but for the image and the parameters, and so is the reset state. -/
theorem eq_resetState {t : State} (h : t = State.reset ∨ ∃ s, hostStep .reset s = .next t) : ∃ s, t = resetState s := by
  obtain rfl | ⟨s, h⟩ := h
  · exact ⟨State.reset, rfl⟩
  · cases h
    exact ⟨s, rfl⟩

/-- After `Reset` the interrupt flag and the reserved bit are set and no other flag is (R180). -/
theorem flag_resetState (s : State) (f : Flag) : (resetState s).flag f = decide (f = .i ∨ f = .r) := by
  show flagOf Config.resetP f = _
  cases f <;> decide

/-- Settles O1: `Reset` writes each element out. -/
theorem resetGivesEveryElementItsValue : Obligations.ResetGivesEveryElementItsValue := by
  refine ⟨rfl, fun s => ⟨resetState s, rfl, rfl, rfl⟩, fun t h => ?_⟩
  obtain ⟨s, rfl⟩ := eq_resetState h
  have hflag := flag_resetState s
  exact ⟨rfl, rfl, rfl, rfl, rfl, rfl, hflag .c, hflag .z, hflag .i, hflag .d, hflag .b, hflag .r, hflag .v, hflag .n,
    fun _ => rfl, rfl, rfl⟩

end Sys2Proof.Machine
end

section
/-! SUPPORT. What executing an instruction does not read: the cycle counter, `pc_set` and the cartridge image (R18, R19, R30,
R47); and that a fault leaves nothing behind (R166, R167). -/

namespace Sys2Proof.Machine

/-! ### The elements no handler reads -/

/-- The state with another cycle counter and another image. -/
def State.withUnread (s : State) (c : Nat) (img : Option CartridgeImage) : State := { s with cycle := c, cart := img }

/-- A branch commutes with replacing the elements that its condition, a flag, does not read. -/
theorem branch_withUnread (f : Flag) (v : Bool) (rel : Byte) (s : State) (c : Nat) (img : Option CartridgeImage) :
    branch (flagIs f v) rel (s.withUnread c img) = (branch (flagIs f v) rel s).withUnread c img := by
  rw [branch_eq, branch_eq]
  rfl

/-- Every handler does: none reads the cycle counter or the image. -/
theorem handler_withUnread {i : Instr} {h : State → State} (hh : handlerOf i = some h) (s : State) (c : Nat)
    (img : Option CartridgeImage) : h (s.withUnread c img) = (h s).withUnread c img := by
  cases i with
  | bpl rel | bmi rel | bvc rel | bvs rel | bcc rel | bcs rel | bne rel | beq rel =>
    cases hh
    exact branch_withUnread ..
  | _ => cases hh <;> rfl

/-- Advancing reads neither. -/
theorem advance_withUnread (s : State) (c : Nat) (img : Option CartridgeImage) (n : Option Nat) :
    (s.withUnread c img).advance n = (s.advance n).withUnread c img := by
  cases hp : s.pcSet with
  | true => rw [State.advance_of_pcSet hp, State.advance_of_pcSet (s := s.withUnread c img) hp]
  | false =>
    cases n with
    | none => simp only [State.advance, ite_self]
    | some n =>
      rw [State.advance_of_not_pcSet hp, State.advance_of_not_pcSet (s := s.withUnread c img) hp]
      rfl

/-- A completed instruction completes alike from a state that differs in those elements: the counter grows by the opcode's
cost, the image stays (R18, R30). -/
theorem exec_withUnread {i : Instr} {s t : State} (he : exec i s = .next t) (c : Nat) (img : Option CartridgeImage) :
    exec i (s.withUnread c img) = .next (t.withUnread (c + s.params.cost i.opcode) img) := by
  obtain ⟨h, hh, rfl⟩ := exec_next he
  obtain ⟨-, -, hparams⟩ := handler_keeps hh s.beginStep
  have hbegin : (s.withUnread c img).beginStep = s.beginStep.withUnread c img := rfl
  have hadd : ((h s.beginStep).withUnread c img).addCycles i.opcode =
      ((h s.beginStep).addCycles i.opcode).withUnread (c + s.params.cost i.opcode) img := by
    show ((h s.beginStep).addCycles i.opcode).withUnread (c + (h s.beginStep).params.cost i.opcode) img = _
    rw [hparams, State.beginStep_params]
  rw [exec_of_handler hh, hbegin, handler_withUnread hh, hadd, advance_withUnread]

/-- A completed instruction adds its opcode's cost (R176 line 3). -/
theorem exec_next_cycle {i : Instr} {s t : State} (he : exec i s = .next t) :
    t.cycle = s.cycle + s.params.cost i.opcode := by
  obtain ⟨h, hh, rfl⟩ := exec_next he
  obtain ⟨hcycle, -, hparams⟩ := handler_keeps hh s.beginStep
  simp [hcycle, hparams]

/-- A fault of an instruction is its marker's, in every state (R135). -/
theorem exec_fault {i : Instr} {s : State} {f : Fault} (he : exec i s = .fault f) (u : State) : exec i u = .fault f := by
  cases hh : handlerOf i with
  | none =>
    rw [exec_of_no_handler hh] at he ⊢
    exact he
  | some h =>
    rw [exec_of_handler hh] at he
    cases he

/-- Settles O26: the image is one of the elements no handler reads. -/
theorem dataAccessesNeverReachTheImage : Obligations.DataAccessesNeverReachTheImage := by
  intro i s t img he
  have hx := exec_withUnread he s.cycle img
  rw [← exec_next_cycle he] at hx
  exact hx

/-- Settles O25: fetch reads the image, which no instruction changes, and the program counter. -/
theorem storesAreNeverSeenByFetch : Obligations.StoresAreNeverSeenByFetch := by
  refine ⟨fun i s t a he => ?_, fun _ _ => State.fetch_congr rfl rfl⟩
  have hc : t.cart = s.cart := exec_next_cart he
  exact State.fetch_congr hc rfl

/-! ### The cycle counter (R18) -/

/-- A step that completes does so alike whatever the cycle counter is. -/
theorem step_withCycle_next {s t : State} (h : step s = .next t) (c : Nat) :
    ∃ k, t.cycle = s.cycle + k ∧ step { s with cycle := c } = .next { t with cycle := c + k } := by
  obtain ⟨i, hf, he⟩ := step_next h
  have hfetch : State.fetch { s with cycle := c } = .ok i := (State.fetch_congr rfl rfl).trans hf
  have hx := exec_withUnread he c s.cart
  refine ⟨_, exec_next_cycle he, ?_⟩
  rw [step_eq, hfetch]
  refine hx.trans ?_
  rw [← exec_next_cart he]
  rfl

/-- A step that faults does so alike whatever the cycle counter is. -/
theorem step_withCycle_fault {s : State} {f : Fault} (h : step s = .fault f) (c : Nat) :
    step { s with cycle := c } = .fault f := by
  have hfetch : State.fetch { s with cycle := c } = s.fetch := State.fetch_congr rfl rfl
  rw [step_eq] at h ⊢
  rw [hfetch]
  cases hf : s.fetch with
  | error g =>
    rw [hf] at h
    exact h
  | ok i =>
    rw [hf] at h
    exact exec_fault h _

/-- Settles O27: a step reads the counter and `pc_set` neither in its fetch nor in executing what it fetched. -/
theorem cyclesAreCountedAndNeverRead : Obligations.CyclesAreCountedAndNeverRead := by
  refine ⟨rfl, fun i s t => exec_next_cycle, fun i s f he => by rw [he]; rfl, fun s c b => ⟨fun t h => ?_, fun f h => ?_⟩⟩
  · obtain ⟨k, hk, hs⟩ := step_withCycle_next h c
    exact ⟨k, hk, (step_pcSet { s with cycle := c } b).trans hs⟩
  · exact (step_pcSet { s with cycle := c } b).trans (step_withCycle_fault h c)

/-! ### After a fault (R166, R167) -/

theorem answersAlike_refl (r : Result) : AnswersAlike r r := by
  cases r with
  | next t => exact ⟨rfl, fun _ => rfl, rfl⟩
  | fault f => rfl
  | refused r => rfl

/-- A host operation answers alike whatever `pc_set` is, which it does not read (R19, R28). -/
theorem hostStep_pcSet (op : HostOp) (s : State) (b : Bool) :
    AnswersAlike (hostStep op s) (hostStep op { s with pcSet := b }) := by
  cases op with
  | reset => exact answersAlike_refl _
  | load file =>
    simp only [hostStep, load]
    cases parseImage file with
    | some img => exact ⟨rfl, fun port => hostRead_pcSet port { s with cart := some img } b, rfl⟩
    | none => exact answersAlike_refl _
  | step d =>
    simp only [hostStep, stepDescriptor, exec_pcSet]
    exact answersAlike_refl _
  | romStep =>
    simp only [hostStep, step_pcSet]
    exact answersAlike_refl _

/-- After outcomes that are alike, from states that differ in `pc_set` at most, so do the states. -/
theorem stateAfter_of_alike {q r : Result} (h : AnswersAlike q r) (s : State) (b : Bool) :
    ∃ c, stateAfter { s with pcSet := b } r = { stateAfter s q with pcSet := c } := by
  match q, r, h with
  | .next _, .next u, ⟨hu, _⟩ => exact ⟨u.pcSet, hu⟩
  | .fault _, .fault _, _ => exact ⟨b, rfl⟩
  | .refused _, .refused _, _ => exact ⟨b, rfl⟩

/-- The state after a host operation is the same but for `pc_set`, whatever `pc_set` was before it. -/
theorem hostRun_pcSet (op : HostOp) (s : State) (b : Bool) :
    ∃ c, hostRun op { s with pcSet := b } = { hostRun op s with pcSet := c } :=
  stateAfter_of_alike (hostStep_pcSet op s b) s b

/-- So is the state after a run. -/
theorem hostRuns_pcSet (ops : List HostOp) (s : State) (b : Bool) :
    ∃ c, hostRuns ops { s with pcSet := b } = { hostRuns ops s with pcSet := c } := by
  induction ops generalizing s b with
  | nil => exact ⟨b, rfl⟩
  | cons op ops ih =>
    obtain ⟨c, hc⟩ := hostRun_pcSet op s b
    rw [hostRuns_cons, hostRuns_cons, hc]
    exact ih (hostRun op s) c

/-- Settles O23: by induction on the run the two states differ in `pc_set` at most, so the next operation answers alike. -/
theorem faultLeavesTheStateAsItWas : Obligations.FaultLeavesTheStateAsItWas := by
  intro op s f h
  have hr := hostRun_of_fault h
  refine ⟨hr, fun b ops later => ?_⟩
  obtain ⟨c, hc⟩ := hostRuns_pcSet ops s b
  rw [hr, hc]
  exact hostStep_pcSet later (hostRuns ops s) c

end Sys2Proof.Machine
end

section
/-! SUPPORT. What a completed step leaves in each element, from what its handler left (R176); and which instructions may change
a register, a flag, memory and `PC` (R10 to R16, R23, R34). -/

namespace Sys2Proof.Machine

open Sys2Proof.Claims

/-! ### From the handler to the step (R176) -/

/-- What a completed step leaves of the state `u` its handler left: everything but the program counter and what is done around
the handler. -/
structure Leaves (i : Instr) (s u t : State) : Prop where
  a : t.a = u.a
  x : t.x = u.x
  y : t.y = u.y
  sp : t.sp = u.sp
  p : t.p = u.p
  mem : t.mem = u.mem
  retires : Retires i s t

/-- Lines 3 and 4 of `Step` leave what the handler left. -/
theorem leaves_of_handler {i : Instr} {h : State → State} (hh : handlerOf i = some h) (s : State) :
    Leaves i s (h s.beginStep) (((h s.beginStep).addCycles i.opcode).advance i.size) := by
  obtain ⟨hcycle, hcart, hparams⟩ := handler_keeps hh s.beginStep
  constructor
  case retires => exact ⟨by simp [hcycle, hparams], by simp [hcart], by simp [hparams]⟩
  all_goals simp

/-- A completed step, inverted: it has a handler, and leaves what the handler left. -/
theorem exec_next_leaves {i : Instr} {s t : State} (he : exec i s = .next t) :
    ∃ h, handlerOf i = some h ∧ Leaves i s (h s.beginStep) t := by
  obtain ⟨h, hh, rfl⟩ := exec_next he
  exact ⟨h, hh, leaves_of_handler hh s⟩

/-- A step whose handler assigned `PC` completes with the program counter it assigned (R100). -/
theorem exec_jumps {i : Instr} {h : State → State} (hh : handlerOf i = some h) (s : State)
    (hp : (h s.beginStep).pcSet = true) :
    ∃ t, exec i s = .next t ∧ Leaves i s (h s.beginStep) t ∧ t.pc = (h s.beginStep).pc ∧ t.pcSet = true := by
  refine ⟨_, exec_of_handler hh s, leaves_of_handler hh s, ?_, ?_⟩
  · rw [State.advance_of_pcSet ((State.addCycles_pcSet ..).trans hp), State.addCycles_pc]
  · rw [State.advance_pcSet, State.addCycles_pcSet, hp]

/-- A step whose handler did not assign `PC` completes with the program counter advanced by the size (R100). -/
theorem exec_advances {i : Instr} {h : State → State} {n : Nat} (hh : handlerOf i = some h) (hn : i.size = some n)
    (s : State) (hp : (h s.beginStep).pcSet = false) :
    ∃ t, exec i s = .next t ∧ Leaves i s (h s.beginStep) t ∧ t.pc = (h s.beginStep).pc + BitVec.ofNat 16 n ∧
      t.pcSet = false := by
  refine ⟨_, exec_of_handler hh s, leaves_of_handler hh s, ?_, ?_⟩
  · rw [hn, State.advance_of_not_pcSet ((State.addCycles_pcSet ..).trans hp), State.addCycles_pc]
  · rw [State.advance_pcSet, State.addCycles_pcSet, hp]

/-- What holds of the state an instruction completes with holds of any state it is said to complete with. -/
theorem of_exec {i : Instr} {s t : State} {P : State → Prop} (hx : ∃ u, exec i s = .next u ∧ P u)
    (he : exec i s = .next t) : P t := by
  obtain ⟨u, hu, hp⟩ := hx
  rw [hu] at he
  cases he
  exact hp

/-! ### The program counter (R16, R23) -/

/-- The instructions whose handler leaves `PC` to the default advance (R100): all but JMP, JSR, RTS and the branches. -/
def leavesPC : Instr → Bool
  | .jmpAbs _ | .jsr _ | .rts | .bcc _ | .bcs _ | .beq _ | .bne _ | .bmi _ | .bpl _ | .bvc _ | .bvs _ => false
  | _ => true

theorem handler_keeps_pc {i : Instr} {h : State → State} (hh : handlerOf i = some h) (hi : leavesPC i = true) (s : State) :
    (h s).pc = s.pc ∧ (h s).pcSet = s.pcSet := by
  cases i with
  | jmpAbs _ | jsr _ | rts | bcc _ | bcs _ | beq _ | bne _ | bmi _ | bpl _ | bvc _ | bvs _ => cases hi
  | _ => cases hh <;> exact ⟨rfl, rfl⟩

/-- Such an instruction advances `PC` by the number of bytes it is encoded by. -/
theorem exec_next_pc {i : Instr} {s t : State} (hi : leavesPC i = true) (he : exec i s = .next t) :
    t.pc = s.pc + BitVec.ofNat 16 (encode i).length ∧ t.pcSet = false := by
  obtain ⟨h, hh, -⟩ := exec_next he
  obtain ⟨hpc, hset⟩ := handler_keeps_pc hh hi s.beginStep
  have himp : i.implemented = true := by rw [← handlerOf_isSome, hh, Option.isSome_some]
  obtain ⟨-, hpc', hset'⟩ := of_exec (exec_advances hh (size_of_implemented himp) s hset) he
  exact ⟨by rw [hpc', hpc, State.beginStep_pc], hset'⟩

/-- A branch: taken or not, `PC` advances by 2, and taken it moves by the displacement too (R101, decision D8). -/
theorem exec_branch {i : Instr} {f : Flag} {v : Bool} {rel : Byte} (hh : handlerOf i = some (branch (flagIs f v) rel))
    (hn : i.size = some 2) (s : State) :
    ∃ t, exec i s = .next t ∧ Leaves i s s t ∧
      t.pc = (if s.flag f = v then s.pc + 2 + sext8 rel else s.pc + 2) ∧ t.pcSet = false := by
  have hb := branch_eq (flagIs f v) rel s.beginStep
  obtain ⟨t, he, hl, hpc, hset⟩ := exec_advances hh hn s (by rw [hb, State.beginStep_pcSet])
  rw [hb] at hl hpc
  refine ⟨t, he, ⟨hl.a, hl.x, hl.y, hl.sp, hl.p, hl.mem, hl.retires⟩, hpc.trans ?_, hset⟩
  show (if (s.flag f == v) = true then s.pc + sext8 rel else s.pc) + 2 = _
  simp only [beq_iff_eq, ite_add]
  rw [add_right_comm]

/-- The address RTS reads: its low byte one cell below its high byte, at the raised `SP` (R112). -/
theorem returnAddr_eq (s : State) :
    s.returnAddr = wordOf (s.memRead (zext16 (s.sp + 1))) (s.memRead (zext16 (s.sp + 2))) := by
  have hsp : s.sp + 2 - 1 = s.sp + 1 := by bv_omega
  rw [State.returnAddr, hsp]
  rfl

/-- A branch on a clear flag, with the flag's own value as the condition. -/
theorem ite_false_eq_swap (b : Bool) (x y : Addr) : (if b = false then x else y) = if b then y else x := by
  cases b <;> rfl

/-- Settles O28: a jump leaves `PC` where its handler put it, a branch by its condition, and any other instruction advances. -/
theorem programCounterAfterAnyInstruction : Obligations.ProgramCounterAfterAnyInstruction := by
  intro i s t he
  cases i with
  | jmpAbs a | jsr a =>
    obtain ⟨-, hpc, hset⟩ := of_exec (exec_jumps rfl s rfl) he
    exact ⟨hpc, hset⟩
  | rts =>
    obtain ⟨-, hpc, hset⟩ := of_exec (exec_jumps rfl s rfl) he
    exact ⟨hpc.trans (returnAddr_eq s.beginStep), hset⟩
  | bcc rel | bne rel | bpl rel | bvc rel =>
    obtain ⟨-, hpc, hset⟩ := of_exec (exec_branch rfl rfl s) he
    exact ⟨hpc.trans (ite_false_eq_swap ..), hset⟩
  | bcs rel | beq rel | bmi rel | bvs rel =>
    obtain ⟨-, hpc, hset⟩ := of_exec (exec_branch rfl rfl s) he
    exact ⟨hpc, hset⟩
  | _ => exact exec_next_pc rfl he

/-! ### Registers and memory (R10 to R13, R34) -/

/-- The mnemonics that may change `A` (R10). -/
def writersOfA : List String := ["LDA", "TXA", "TYA", "ADC", "ASL", "LSR", "PLA"]

/-- The mnemonics that may change `X` (R11). -/
def writersOfX : List String := ["LDX", "TAX"]

/-- The mnemonics that may change `Y` (R12). -/
def writersOfY : List String := ["LDY", "TAY"]

/-- The mnemonics that may change `SP` (R13). -/
def writersOfSP : List String := ["PHA", "PHP", "PLA", "PLP", "JSR", "RTS"]

/-- The mnemonics that may write memory (R34). -/
def writersOfMemory : List String := ["STA", "STX", "STY", "PHA", "PHP", "JSR"]

/-- A mnemonic that is listed cannot be one that is not. -/
theorem of_listed {m : String} {l : List String} {P : Prop} (h : decide (m ∈ l) = true) (hn : m ∉ l) : P :=
  absurd (of_decide_eq_true h) hn

/-- A handler changes a register, or memory, only for the mnemonics that may. -/
theorem handler_frame {i : Instr} {h : State → State} (hh : handlerOf i = some h) (s : State) :
    (i.mnemonic ∉ writersOfA → (h s).a = s.a) ∧ (i.mnemonic ∉ writersOfX → (h s).x = s.x) ∧
      (i.mnemonic ∉ writersOfY → (h s).y = s.y) ∧ (i.mnemonic ∉ writersOfSP → (h s).sp = s.sp) ∧
      (i.mnemonic ∉ writersOfMemory → (h s).mem = s.mem) := by
  cases i with
  | ldaImm _ | ldaZp _ | ldaAbs _ | txa | tya | adcImm _ | adcZp _ | adcAbs _ | aslAcc | lsrAcc =>
    cases hh
    exact ⟨of_listed rfl, fun _ => rfl, fun _ => rfl, fun _ => rfl, fun _ => rfl⟩
  | ldxImm _ | ldxZp _ | ldxAbs _ | tax =>
    cases hh
    exact ⟨fun _ => rfl, of_listed rfl, fun _ => rfl, fun _ => rfl, fun _ => rfl⟩
  | ldyImm _ | ldyZp _ | ldyAbs _ | tay =>
    cases hh
    exact ⟨fun _ => rfl, fun _ => rfl, of_listed rfl, fun _ => rfl, fun _ => rfl⟩
  | pla =>
    cases hh
    exact ⟨of_listed rfl, fun _ => rfl, fun _ => rfl,
      of_listed rfl, fun _ => rfl⟩
  | plp | rts =>
    cases hh
    exact ⟨fun _ => rfl, fun _ => rfl, fun _ => rfl, of_listed rfl, fun _ => rfl⟩
  | pha | php | jsr _ =>
    cases hh
    exact ⟨fun _ => rfl, fun _ => rfl, fun _ => rfl, of_listed rfl,
      of_listed rfl⟩
  | staZp _ | staAbs _ | stxZp _ | stxAbs _ | styZp _ | styAbs _ =>
    cases hh
    exact ⟨fun _ => rfl, fun _ => rfl, fun _ => rfl, fun _ => rfl, of_listed rfl⟩
  | bpl _ | bmi _ | bvc _ | bvs _ | bcc _ | bcs _ | bne _ | beq _ =>
    cases hh
    rw [branch_eq]
    exact ⟨fun _ => rfl, fun _ => rfl, fun _ => rfl, fun _ => rfl, fun _ => rfl⟩
  | _ => cases hh <;> exact ⟨fun _ => rfl, fun _ => rfl, fun _ => rfl, fun _ => rfl, fun _ => rfl⟩

/-- The mnemonics that may change a flag (R14). -/
def writersOfFlag : Flag → List String
  | .c => ["SEC", "CLC", "ADC", "ASL", "LSR", "CMP", "CPX", "CPY", "PLP"]
  | .z | .n => ["LDA", "LDX", "LDY", "TAX", "TAY", "TXA", "TYA", "ADC", "ASL", "LSR", "CMP", "CPX", "CPY", "BIT", "PLA", "PLP"]
  | .i => ["SEI", "PLP"]
  | .d => ["SED", "CLD", "PLP"]
  | .b | .r => ["PLP"]
  | .v => ["CLV", "ADC", "BIT", "PLP"]

theorem mnemonic_mem_writersOfFlag (i : Instr) : ∀ f ∈ flagsWritten i, i.mnemonic ∈ writersOfFlag f := by
  cases i <;> exact of_decide_eq_true rfl

/-- A completed instruction changes a flag only if its mnemonic may. -/
theorem exec_next_flag {i : Instr} {s t : State} (he : exec i s = .next t) {f : Flag} (hf : i.mnemonic ∉ writersOfFlag f) :
    t.flag f = s.flag f :=
  exec_flags he f fun h => hf (mnemonic_mem_writersOfFlag i f h)

/-- Settles O29, from the frame of the handler. -/
theorem onlyTheNamedMnemonicsWriteARegister : Obligations.OnlyTheNamedMnemonicsWriteARegister := by
  intro i s t he
  obtain ⟨h, hh, hl⟩ := exec_next_leaves he
  obtain ⟨ha, hx, hy, hsp, -⟩ := handler_frame hh s.beginStep
  exact ⟨fun hm => hl.a.trans (ha hm), fun hm => hl.x.trans (hx hm), fun hm => hl.y.trans (hy hm),
    fun hm => hl.sp.trans (hsp hm)⟩

/-- Settles O32, from the frame of the handler. -/
theorem onlyStoresPushesAndCallsWriteMemory : Obligations.OnlyStoresPushesAndCallsWriteMemory := by
  intro i s t he hm
  obtain ⟨h, hh, hl⟩ := exec_next_leaves he
  obtain ⟨-, -, -, -, hmem⟩ := handler_frame hh s.beginStep
  exact memoryExcept_of_eq (hl.mem.trans (hmem hm)) []

theorem eq_pla_of_mnemonic {i : Instr} (h : i.mnemonic = "PLA") : i = .pla := by
  cases i with
  | pla => rfl
  | _ => exact absurd h (of_decide_eq_true rfl)

theorem eq_plp_of_mnemonic {i : Instr} (h : i.mnemonic = "PLP") : i = .plp := by
  cases i with
  | plp => rfl
  | _ => exact absurd h (of_decide_eq_true rfl)

/-- Settles O30, from the flags that each mnemonic may change; PLA leaves `P` alone where its parameter is false. -/
theorem onlyTheNamedMnemonicsWriteAFlag : Obligations.OnlyTheNamedMnemonicsWriteAFlag := by
  intro i s t he
  have hf (f : Flag) := exec_next_flag he (f := f)
  refine ⟨hf .c, fun hm => ⟨hf .z hm, hf .n hm⟩, fun hm hpar => ?_, hf .i, hf .d, fun hm => ⟨hf .b hm, hf .r hm⟩, hf .v⟩
  cases eq_pla_of_mnemonic hm
  obtain ⟨h, hh, hl⟩ := exec_next_leaves he
  cases hh
  refine hl.p.trans (if_neg ?_)
  simp [hpar]

/-- Settles O31: PLP forces the two bits, and no other mnemonic writes them. -/
theorem reservedBitsOfPKeepTheirValues : Obligations.ReservedBitsOfPKeepTheirValues := by
  refine ⟨by decide, fun i s t he => ?_⟩
  have hplp : i = .plp → t.flag .r = true ∧ t.flag .b = false := by
    rintro rfl
    obtain ⟨h, hh, hl⟩ := exec_next_leaves he
    cases hh
    rw [State.flag, State.flag, hl.p]
    exact ⟨flagOf_pulledStatus _ .r, flagOf_pulledStatus _ .b⟩
  have hkeep (hi : i ≠ .plp) : t.flag .r = s.flag .r ∧ t.flag .b = s.flag .b := by
    have hm : i.mnemonic ∉ ["PLP"] := fun hm => hi (eq_plp_of_mnemonic (List.mem_singleton.1 hm))
    exact ⟨exec_next_flag he (f := .r) hm, exec_next_flag he (f := .b) hm⟩
  refine ⟨hplp, hkeep, fun hr hb => ?_⟩
  by_cases hi : i = .plp
  · exact hplp hi
  · obtain ⟨hr', hb'⟩ := hkeep hi
    exact ⟨hr'.trans hr, hb'.trans hb⟩

end Sys2Proof.Machine
end

section
/-! SUPPORT. Loads, transfers, stores and arithmetic, one lemma per handler for all its forms (R70 to R95). -/

namespace Sys2Proof.Machine

open Sys2Proof.Claims

section
variable {i : Instr} {h : State → State} {n : Nat} {s u t : State}

/-! ### Shapes of an instruction -/

theorem Leaves.flag (hl : Leaves i s u t) (f : Flag) : t.flag f = flagOf u.p f :=
  congrArg (flagOf · f) hl.p

theorem FlagsExcept.mono {l l' : List Flag} (hf : FlagsExcept l s t) (h : ∀ f ∈ l, f ∈ l') : FlagsExcept l' s t :=
  fun f hn => hf f fun hm => hn (h f hm)

/-- An instruction whose handler writes one value to a register, sets Z and N from it, and leaves memory and `PC` alone. -/
theorem exec_setsZN {v : Byte} (hh : handlerOf i = some h) (hn : i.size = some n) (s : State)
    (hset : (h s.beginStep).pcSet = false) (hpc : (h s.beginStep).pc = s.pc)
    (hp : (h s.beginStep).p = Machine.setZN v.toNat s.p) (hm : (h s.beginStep).mem = s.mem) :
    ∃ t, exec i s = .next t ∧ Leaves i s (h s.beginStep) t ∧ ZNFollow v [] s t ∧ FlagsExcept [.z, .n] s t ∧
      MemoryExcept [] s t ∧ Advances (BitVec.ofNat 16 n) s t := by
  obtain ⟨t, he, hl, hpc', hset'⟩ := exec_advances hh hn s hset
  have hp' := hl.p.trans hp
  exact ⟨t, he, hl, znFollow_of_setZN [] hp', flagsExcept_zn hp', memoryExcept_of_eq (hl.mem.trans hm) [],
    hpc'.trans (by rw [hpc]), hset'⟩

/-- An instruction whose handler writes the status register and nothing else. -/
theorem exec_setsP {p : Byte} (hh : handlerOf i = some h) (hn : i.size = some n) (s : State)
    (hw : h s.beginStep = s.beginStep.setP p) :
    ∃ t, exec i s = .next t ∧ t.p = p ∧ ∀ flags, FlagsExcept flags s t → OnlyFlags (BitVec.ofNat 16 n) flags i s t := by
  obtain ⟨t, he, hl, hpc, hset⟩ := exec_advances hh hn s (by rw [hw]; rfl)
  rw [hw] at hl hpc
  exact ⟨t, he, hl.p, fun flags hf =>
    ⟨hl.a, hl.x, hl.y, hl.sp, hf, memoryExcept_of_eq hl.mem [], ⟨hpc, hset⟩, hl.retires⟩⟩

/-! ### Loads and transfers (R70 to R76) -/

theorem exec_lda {o : State → Byte} (hh : handlerOf i = some (lda o)) (hn : i.size = some n) (s : State) :
    ∃ t, exec i s = .next t ∧ t.a = o s.beginStep ∧ ZNFollow (o s.beginStep) [] s t ∧
      OnlyA (BitVec.ofNat 16 n) [.z, .n] i s t := by
  obtain ⟨t, he, hl, hzn, hf, hm, hadv⟩ := exec_setsZN hh hn s rfl rfl rfl rfl
  exact ⟨t, he, hl.a, hzn, hl.x, hl.y, hl.sp, hf, hm, hadv, hl.retires⟩

theorem exec_ldx {o : State → Byte} (hh : handlerOf i = some (ldx o)) (hn : i.size = some n) (s : State) :
    ∃ t, exec i s = .next t ∧ t.x = o s.beginStep ∧ ZNFollow (o s.beginStep) [] s t ∧
      t.a = s.a ∧ t.y = s.y ∧ t.sp = s.sp ∧ MemoryExcept [] s t ∧ Advances (BitVec.ofNat 16 n) s t ∧ Retires i s t := by
  obtain ⟨t, he, hl, hzn, -, hm, hadv⟩ := exec_setsZN hh hn s rfl rfl rfl rfl
  exact ⟨t, he, hl.x, hzn, hl.a, hl.y, hl.sp, hm, hadv, hl.retires⟩

theorem exec_ldy {o : State → Byte} (hh : handlerOf i = some (ldy o)) (hn : i.size = some n) (s : State) :
    ∃ t, exec i s = .next t ∧ t.y = o s.beginStep ∧ ZNFollow (o s.beginStep) [] s t ∧
      t.a = s.a ∧ t.x = s.x ∧ t.sp = s.sp ∧ MemoryExcept [] s t ∧ Advances (BitVec.ofNat 16 n) s t ∧ Retires i s t := by
  obtain ⟨t, he, hl, hzn, -, hm, hadv⟩ := exec_setsZN hh hn s rfl rfl rfl rfl
  exact ⟨t, he, hl.y, hzn, hl.a, hl.x, hl.sp, hm, hadv, hl.retires⟩

end

/-- Settles O39: the three forms by their common handler. -/
theorem loadAccumulator : Obligations.LoadAccumulator := by
  intro s m z w
  refine ⟨fun f hf => ?_, rfl, rfl, rfl, raiseUnimplemented_of_marked rfl⟩
  fin_cases hf
  · exact exec_lda (i := .ldaImm m) rfl rfl s
  · exact exec_lda (i := .ldaZp z) rfl rfl s
  · exact exec_lda (i := .ldaAbs w) rfl rfl s

/-- Settles O40: the three forms by their common handler. -/
theorem loadIndexX : Obligations.LoadIndexX := by
  intro s m z w
  refine ⟨fun f hf => ?_, rfl, rfl, rfl, raiseUnimplemented_of_marked rfl⟩
  fin_cases hf
  · exact exec_ldx (i := .ldxImm m) rfl rfl s
  · exact exec_ldx (i := .ldxZp z) rfl rfl s
  · exact exec_ldx (i := .ldxAbs w) rfl rfl s

/-- Settles O41: the three forms by their common handler. -/
theorem loadIndexY : Obligations.LoadIndexY := by
  intro s m z w
  refine ⟨fun f hf => ?_, rfl, rfl, rfl, raiseUnimplemented_of_marked rfl⟩
  fin_cases hf
  · exact exec_ldy (i := .ldyImm m) rfl rfl s
  · exact exec_ldy (i := .ldyZp z) rfl rfl s
  · exact exec_ldy (i := .ldyAbs w) rfl rfl s

/-- Settles O42: each transfer writes its register with the source's value, and Z and N follow it. -/
theorem accumulatorTransfers : Obligations.AccumulatorTransfers := by
  refine ⟨fun s => ⟨?_, ?_, ?_, ?_⟩, rfl, rfl, rfl, rfl⟩
  · obtain ⟨t, he, hl, hzn, -, hm, hadv⟩ := exec_setsZN (i := .tax) rfl rfl s rfl rfl rfl rfl
    exact ⟨t, he, hl.x, hzn, hl.a, hl.y, hl.sp, hm, hadv, hl.retires⟩
  · obtain ⟨t, he, hl, hzn, -, hm, hadv⟩ := exec_setsZN (i := .tay) rfl rfl s rfl rfl rfl rfl
    exact ⟨t, he, hl.y, hzn, hl.a, hl.x, hl.sp, hm, hadv, hl.retires⟩
  · obtain ⟨t, he, hl, hzn, hf, hm, hadv⟩ := exec_setsZN (i := .txa) rfl rfl s rfl rfl rfl rfl
    exact ⟨t, he, hl.a, hzn, hl.x, hl.y, hl.sp, hf, hm, hadv, hl.retires⟩
  · obtain ⟨t, he, hl, hzn, hf, hm, hadv⟩ := exec_setsZN (i := .tya) rfl rfl s rfl rfl rfl rfl
    exact ⟨t, he, hl.a, hzn, hl.x, hl.y, hl.sp, hf, hm, hadv, hl.retires⟩

/-! ### Stores (R77 to R79) -/

/-- What one store leaves in memory: its value at its address, and every other byte as it was. -/
theorem memory_of_write {s t : State} {a : Addr} {v : Byte} (h : t.mem = s.mem.write a.toNat v) :
    t.memRead a = v ∧ MemoryExcept [a] s t := by
  refine ⟨by rw [memRead_of_write h, if_pos rfl], fun b hb => ?_⟩
  rw [memRead_of_write h, if_neg fun hba => hb (List.mem_singleton.2 hba)]

/-- An instruction whose handler stores one byte and does nothing else. -/
theorem exec_store {i : Instr} {h : State → State} {n : Nat} {a : Addr} {v : Byte} (hh : handlerOf i = some h)
    (hn : i.size = some n) (s : State) (hw : h s.beginStep = s.beginStep.memWrite a v) :
    ∃ t, exec i s = .next t ∧ t.memRead a = v ∧ MemoryExcept [a] s t ∧ KeepsAXYP i s t ∧ t.sp = s.sp ∧
      Advances (BitVec.ofNat 16 n) s t := by
  obtain ⟨t, he, hl, hpc, hset⟩ := exec_advances hh hn s (by rw [hw]; rfl)
  rw [hw] at hl hpc
  obtain ⟨hv, hm⟩ := memory_of_write hl.mem
  exact ⟨t, he, hv, hm, ⟨hl.a, hl.x, hl.y, hl.p, hl.retires⟩, hl.sp, hpc, hset⟩

/-- Settles O43: each form is one store. -/
theorem storeInstructions : Obligations.StoreInstructions := by
  intro s z w
  refine ⟨fun f hf => ?_, rfl, rfl, rfl, rfl, rfl, rfl, raiseUnimplemented_of_marked rfl⟩
  fin_cases hf
  · exact exec_store (i := .staZp z) rfl rfl s rfl
  · exact exec_store (i := .staAbs w) rfl rfl s rfl
  · exact exec_store (i := .stxZp z) rfl rfl s rfl
  · exact exec_store (i := .stxAbs w) rfl rfl s rfl
  · exact exec_store (i := .styZp z) rfl rfl s rfl
  · exact exec_store (i := .styAbs w) rfl rfl s rfl

/-! ### Compares and the bit test (R87, R91 to R94) -/

/-- The 8-bit truncation is zero exactly for the multiples of 256. -/
theorem u8_beq_zero (v : Nat) : (u8 v == 0x00) = decide (v % 256 = 0) := by
  rw [beq_eq_decide, decide_eq_decide, ← BitVec.toNat_inj, toNat_u8]
  rfl

/-- Bit 7 of the 8-bit truncation is bit 7 of the integer. -/
theorem getLsbD_seven_u8 (v : Nat) : (u8 v).getLsbD 7 = v.testBit 7 := by
  rw [u8, BitVec.getLsbD_ofNat]
  rfl

/-- Settles O37: each helper is an assignment of its flag, from the truncation's value and bit 7. -/
theorem setZNAssignsZAndNOnly : Obligations.SetZNAssignsZAndNOnly := by
  intro v p
  have hz (f : Flag) : flagOf (setZero v p) f = if f = .z then decide (v % 256 = 0) else flagOf p f := by
    rw [setZero, flagOf_assignFlag, u8_beq_zero]
  have hn (q : Byte) (f : Flag) : flagOf (setNegative v q) f = if f = .n then v.testBit 7 else flagOf q f := by
    rw [setNegative, flagOf_assignFlag, getLsbD_seven_u8]
  refine ⟨hz, hn p, fun f => ?_⟩
  rw [setZN, hn, hz]
  cases f <;> rfl

/-- An instruction whose handler compares a register with its operand. -/
theorem exec_compare {i : Instr} {h : State → State} {n : Nat} {r m : Byte} (hh : handlerOf i = some h)
    (hn : i.size = some n) (s : State) (hw : h s.beginStep = s.beginStep.setP (compareFlags r m s.p)) :
    ∃ t, exec i s = .next t ∧ ZNFollow (r - m) [.c] s t ∧ (t.flag .c = true ↔ m.toNat ≤ r.toNat) ∧
      OnlyFlags (BitVec.ofNat 16 n) [.c, .z, .n] i s t := by
  obtain ⟨t, he, hp, honly⟩ := exec_setsP hh hn s hw
  have hflag (f : Flag) : t.flag f = flagOf (compareFlags r m s.p) f := congrArg (flagOf · f) hp
  have hf : FlagsExcept [.c, .z, .n] s t := flagsExcept_compare hp
  refine ⟨t, he, ⟨?_, ?_, hf.mono (by decide)⟩, ?_, honly _ hf⟩
  · rw [hflag, flagOf_compareFlags]
  · rw [hflag, flagOf_compareFlags]
  · rw [hflag, flagOf_compareFlags, decide_eq_true_iff]

/-- Settles O47: each form compares its register with its operand. -/
theorem compareInstructions : Obligations.CompareInstructions := by
  intro s m z w
  refine ⟨fun f hf => ?_, rfl, rfl, rfl, rfl, rfl, rfl, rfl, rfl, rfl, raiseUnimplemented_of_marked rfl⟩
  fin_cases hf
  · exact exec_compare (i := .cmpImm m) rfl rfl s rfl
  · exact exec_compare (i := .cmpZp z) rfl rfl s rfl
  · exact exec_compare (i := .cmpAbs w) rfl rfl s rfl
  · exact exec_compare (i := .cpxImm m) rfl rfl s rfl
  · exact exec_compare (i := .cpxZp z) rfl rfl s rfl
  · exact exec_compare (i := .cpxAbs w) rfl rfl s rfl
  · exact exec_compare (i := .cpyImm m) rfl rfl s rfl
  · exact exec_compare (i := .cpyZp z) rfl rfl s rfl
  · exact exec_compare (i := .cpyAbs w) rfl rfl s rfl

/-- BIT in both forms. -/
theorem exec_bit {i : Instr} {n : Nat} {a : Addr} (hh : handlerOf i = some (bit a)) (hn : i.size = some n) (s : State) :
    ∃ t, exec i s = .next t ∧ t.flag .v = (s.memRead a).getLsbD 6 ∧ t.flag .n = (s.memRead a).getLsbD 7 ∧
      (t.flag .z = true ↔ s.a &&& s.memRead a = 0) ∧ OnlyFlags (BitVec.ofNat 16 n) [.v, .n, .z] i s t := by
  obtain ⟨t, he, hp, honly⟩ := exec_setsP hh hn s (p := bitFlags s.a (s.memRead a) s.p) rfl
  have hflag (f : Flag) : t.flag f = flagOf (bitFlags s.a (s.memRead a) s.p) f := congrArg (flagOf · f) hp
  have hf : FlagsExcept [.z, .v, .n] s t := fun f hn => (hflag f).trans (flagsExcept_bit a s f hn)
  refine ⟨t, he, ?_, ?_, ?_, honly _ (hf.mono (by decide))⟩
  · rw [hflag, flagOf_bitFlags]
  · rw [hflag, flagOf_bitFlags]
  · rw [hflag, flagOf_bitFlags, decide_eq_true_iff]

/-- Settles O48: the two forms by their common handler. -/
theorem bitTest : Obligations.BitTest := by
  intro s z w
  refine ⟨fun f hf => ?_, rfl, rfl⟩
  fin_cases hf
  · exact exec_bit (i := .bitZp z) rfl rfl s
  · exact exec_bit (i := .bitAbs w) rfl rfl s

/-! ### ADC (R88, R95) -/

/-- ADC in each form: `A` and `P` from the raw sum, and the frame. -/
theorem exec_adc {i : Instr} {o : State → Byte} {n : Nat} (hh : handlerOf i = some (adc o)) (hn : i.size = some n)
    (s : State) :
    ∃ t, exec i s = .next t ∧ t.a = u8 (adcRaw s.a (o s.beginStep) s.carry) ∧
      t.p = adcFlags s.a (o s.beginStep) (adcRaw s.a (o s.beginStep) s.carry) s.p ∧
      OnlyA (BitVec.ofNat 16 n) [.c, .v, .z, .n] i s t := by
  obtain ⟨t, he, hl, hpc, hset⟩ := exec_advances hh hn s rfl
  have hf : FlagsExcept [.c, .z, .v, .n] s t := fun f hn => (hl.flag f).trans (flagsExcept_adc o s.beginStep f hn)
  exact ⟨t, he, hl.a, hl.p, hl.x, hl.y, hl.sp, hf.mono (by decide), memoryExcept_of_eq hl.mem [], ⟨hpc, hset⟩, hl.retires⟩

/-- The raw sum, with the carry as the statements write it. -/
theorem adcRaw_carry (a m : Byte) (s : State) :
    adcRaw a m s.carry = a.toNat + m.toNat + (if s.flag .c then 1 else 0) := by
  rw [adcRaw, State.carry, Bool.toNat, Bool.cond_eq_ite]

/-- The overflow test, said of the three bits 7 (R88). -/
theorem adcOverflow_eq_true_iff (a m : Byte) (raw : Nat) :
    adcOverflow a m raw = true ↔ a.getLsbD 7 = m.getLsbD 7 ∧ raw.testBit 7 ≠ a.getLsbD 7 := by
  rw [adcOverflow, Bool.and_eq_true, beq_iff_eq, bne_iff_ne]

/-- Bit 7 of a byte is its sign (R88). -/
theorem getLsbD_seven (v : Byte) : v.getLsbD 7 = decide (128 ≤ v.toNat) := by
  have := v.isLt
  rw [← BitVec.testBit_toNat, Nat.testBit_eq_decide_div_mod_eq, decide_eq_decide]
  omega

/-- The value of a byte in two's complement. -/
theorem toInt_byte (v : Byte) : v.toInt = if 128 ≤ v.toNat then (v.toNat : Int) - 256 else v.toNat := by
  have := v.isLt
  rw [BitVec.toInt_eq_toNat_cond]
  split <;> split <;> omega

/-- The overflow test is signed overflow: the two's-complement sum leaves -128 to 127 (R95). -/
theorem adcOverflow_iff_signed (a m : Byte) {c : Nat} (hc : c ≤ 1) :
    adcOverflow a m (adcRaw a m c) = true ↔ a.toInt + m.toInt + c < -128 ∨ 127 < a.toInt + m.toInt + c := by
  have ha := a.isLt
  have hm := m.isLt
  rw [adcOverflow_eq_true_iff, getLsbD_seven, getLsbD_seven, Nat.testBit_eq_decide_div_mod_eq, decide_eq_decide, ne_eq,
    decide_eq_decide, toInt_byte, toInt_byte, adcRaw]
  split <;> split <;> omega

/-- Without signed overflow the result is the two's-complement sum (R95). -/
theorem toInt_adcResult (a m : Byte) {c : Nat} (hc : c ≤ 1) (h : adcOverflow a m (adcRaw a m c) = false) :
    (u8 (adcRaw a m c)).toInt = a.toInt + m.toInt + c := by
  have ha := a.isLt
  have hm := m.isLt
  rw [← Bool.not_eq_true, adcOverflow_iff_signed a m hc] at h
  simp only [toInt_byte, toNat_u8, adcRaw] at h ⊢
  split at h <;> split at h <;> split <;> omega

/-- ADC's flags and result against the raw sum, as R88 says them. -/
theorem exec_adc_flags {i : Instr} {o : State → Byte} {n : Nat} (hh : handlerOf i = some (adc o)) (hn : i.size = some n)
    (s : State) :
    ∃ t, exec i s = .next t ∧
      (∀ raw : Nat, raw = s.a.toNat + (o s.beginStep).toNat + (if s.flag .c then 1 else 0) →
        t.a = BitVec.ofNat 8 raw ∧ (t.flag .c = true ↔ 255 < raw) ∧
        (t.flag .v = true ↔ s.a.getLsbD 7 = (o s.beginStep).getLsbD 7 ∧ raw.testBit 7 ≠ s.a.getLsbD 7)) ∧
      ZNFollow t.a [.c, .v] s t ∧ OnlyA (BitVec.ofNat 16 n) [.c, .v, .z, .n] i s t := by
  obtain ⟨t, he, ha, hp, honly⟩ := exec_adc hh hn s
  have hflag (f : Flag) := (congrArg (flagOf · f) hp).trans (flagOf_adcFlags ..)
  have ⟨_, _, _, hf, _⟩ := honly
  refine ⟨t, he, fun raw hraw => ?_, ⟨?_, ?_, hf.mono (by decide)⟩, honly⟩
  · rw [← adcRaw_carry] at hraw
    subst hraw
    exact ⟨ha, by rw [State.flag, hflag .c, decide_eq_true_iff], by rw [State.flag, hflag .v, adcOverflow_eq_true_iff]⟩
  · rw [ha]
    exact hflag .z
  · rw [ha]
    exact hflag .n

/-- Settles O44: the three forms by their common handler. -/
theorem addWithCarry : Obligations.AddWithCarry := by
  intro s m z w
  refine ⟨fun f hf => ?_, rfl, rfl, rfl, raiseUnimplemented_of_marked rfl⟩
  fin_cases hf
  · exact exec_adc_flags (i := .adcImm m) rfl rfl s
  · exact exec_adc_flags (i := .adcZp z) rfl rfl s
  · exact exec_adc_flags (i := .adcAbs w) rfl rfl s

/-- ADC with any value of the decimal flag: the result and every other flag are the same (R88). -/
theorem exec_adc_decimal {i : Instr} {o : State → Byte} {n : Nat} {m : Byte} (hh : handlerOf i = some (adc o))
    (hn : i.size = some n) {s t : State} (ho : ∀ q, o (State.beginStep { s with p := q }) = m)
    (he : exec i s = .next t) (b : Bool) :
    ∃ u, exec i { s with p := assignFlag s.p .d b } = .next u ∧ u.a = t.a ∧ ∀ g, g ≠ .d → u.flag g = t.flag g := by
  obtain ⟨ha, hp, -⟩ := of_exec (exec_adc hh hn s) he
  obtain ⟨u, hu, hua, hup, -⟩ := exec_adc hh hn { s with p := assignFlag s.p .d b }
  have hos : o s.beginStep = m := ho s.p
  have hc : State.carry { s with p := assignFlag s.p .d b } = s.carry :=
    congrArg Bool.toNat (flagOf_assignFlag s.p .d .c b)
  rw [hos] at ha hp
  rw [ho, hc] at hua hup
  refine ⟨u, hu, hua.trans ha.symm, fun g hg => ?_⟩
  rw [State.flag, State.flag, hp, hup, flagOf_adcFlags, flagOf_adcFlags]
  cases g with
  | c | z | v | n => rfl
  | i | b | r => exact flagOf_assignFlag ..
  | d => exact absurd rfl hg

/-- Settles O45: each form is ADC of its operand, whose overflow test is the signed one and whose carry the unsigned one. -/
theorem adcReportsSignedAndUnsignedOverflow : Obligations.AdcReportsSignedAndUnsignedOverflow := by
  intro s t imm z w f hf he
  have hform : ∃ n o, handlerOf f.1 = some (adc o) ∧ f.1.size = some n ∧
      ∀ q, o (State.beginStep { s with p := q }) = f.2 := by
    fin_cases hf
    · exact ⟨2, operandImm imm, rfl, rfl, fun _ => rfl⟩
    · exact ⟨2, operandZp z, rfl, rfl, fun _ => rfl⟩
    · exact ⟨3, operandAbs w, rfl, rfl, fun _ => rfl⟩
  obtain ⟨n, o, hh, hn, ho⟩ := hform
  obtain ⟨ha, hp, -⟩ := of_exec (exec_adc hh hn s) he
  rw [show o s.beginStep = f.2 from ho s.p] at ha hp
  have hflag (g : Flag) := (congrArg (flagOf · g) hp).trans (flagOf_adcFlags ..)
  have hv : t.flag .v = adcOverflow s.a f.2 (adcRaw s.a f.2 s.carry) := hflag .v
  have hc : t.flag .c = decide (255 < adcRaw s.a f.2 s.carry) := hflag .c
  have hle : s.carry ≤ 1 := Bool.toNat_le _
  have hcarry : (s.carry : Int) = if s.flag .c then 1 else 0 := by
    rw [State.carry]
    cases s.flag .c <;> rfl
  refine ⟨?_, fun h => ?_, ?_, exec_adc_decimal hh hn ho he⟩
  · rw [hv, ← hcarry]
    exact adcOverflow_iff_signed s.a f.2 hle
  · rw [hv] at h
    rw [ha, ← hcarry]
    exact toInt_adcResult s.a f.2 hle h
  · have hraw : adcRaw s.a f.2 s.carry < 512 := by
      rw [adcRaw]
      omega
    rw [ha, hc, toNat_u8, ← adcRaw_carry]
    simp only [decide_eq_true_eq]
    split <;> omega

/-! ### Shifts (R89, R90) -/

/-- An instruction whose handler writes `A` with a shift's result, and `P` with its flags. -/
theorem exec_shift {i : Instr} {h : State → State} {n : Nat} {out : Bool} {r : Byte} (hh : handlerOf i = some h)
    (hn : i.size = some n) (s : State) (hw : h s.beginStep = (s.beginStep.setA r).setP (shiftFlags out r s.p)) :
    ∃ t, exec i s = .next t ∧ t.a = r ∧ t.flag .c = out ∧ t.flag .n = r.getLsbD 7 ∧ ZNFollow t.a [.c] s t ∧
      OnlyA (BitVec.ofNat 16 n) [.c, .z, .n] i s t := by
  obtain ⟨t, he, hl, hpc, hset⟩ := exec_advances hh hn s (by rw [hw]; rfl)
  rw [hw] at hl hpc
  have hflag (f : Flag) : t.flag f = flagOf (shiftFlags out r s.p) f := hl.flag f
  have hf : FlagsExcept [.c, .z, .n] s t := flagsExcept_shift hl.p
  have ha : t.a = r := hl.a
  have hn' : t.flag .n = r.getLsbD 7 := by rw [hflag, flagOf_shiftFlags]
  refine ⟨t, he, ha, by rw [hflag, flagOf_shiftFlags], hn', ⟨?_, ha ▸ hn', hf.mono (by decide)⟩,
    hl.x, hl.y, hl.sp, hf, memoryExcept_of_eq hl.mem [], ⟨hpc, hset⟩, hl.retires⟩
  rw [hflag, flagOf_shiftFlags, ha]

/-- Settles O46: N is the result's bit 7, which ASL shifts in from bit 6 and LSR clears. -/
theorem accumulatorShifts : Obligations.AccumulatorShifts := by
  refine ⟨fun s => ⟨?_, ?_⟩, rfl, rfl, raiseUnimplemented_of_marked rfl⟩
  · obtain ⟨t, he, ha, hc, hn, hzn, honly⟩ := exec_shift (i := .aslAcc) rfl rfl s rfl
    refine ⟨t, he, by rw [ha, toNat_u8]; rfl, hc, hn.trans ?_, hzn, honly⟩
    rw [getLsbD_seven_u8, Nat.testBit_succ, Nat.mul_div_cancel _ Nat.two_pos]
    rfl
  · obtain ⟨t, he, ha, hc, hn, hzn, honly⟩ := exec_shift (i := .lsrAcc) rfl rfl s rfl
    have hlt : s.a.toNat / 2 < 2 ^ 7 := by
      have := s.a.isLt
      omega
    refine ⟨t, he, ?_, hc, hn.trans ?_, hzn, honly⟩
    · rw [ha, toNat_u8]
      exact Nat.mod_eq_of_lt (Nat.lt_trans hlt (by decide))
    · rw [getLsbD_seven_u8]
      exact Nat.testBit_lt_two_pow hlt

end Sys2Proof.Machine
end

section
/-! SUPPORT. Control transfer, the stack, the flag instructions and NOP (R100 to R126), and the stack's place in memory (R49,
R184). -/

namespace Sys2Proof.Machine

open Sys2Proof.Claims

/-! ### Branches and JMP (R101 to R110) -/

/-- Adding the sign-extended displacement adds its signed value, modulo 65536 (R101). -/
theorem toNat_add_sext8 (pc : Addr) (rel : Byte) :
    ((pc + 2 + sext8 rel).toNat : Int) = ((pc.toNat : Int) + 2 + rel.toInt) % 65536 := by
  have hs : (sext8 rel).toNat = (rel.toInt % 65536).toNat := BitVec.toNat_ofInt ..
  have hnonneg : 0 ≤ rel.toInt % 65536 := Int.emod_nonneg _ (by decide)
  have h2 : (pc + 2).toNat = (pc.toNat + 2) % 65536 := BitVec.toNat_add ..
  rw [BitVec.toNat_add, hs, h2]
  omega

/-- A branch as R101 to R109 say it. -/
theorem exec_branch_spec {i : Instr} {f : Flag} {v : Bool} {rel : Byte}
    (hh : handlerOf i = some (branch (flagIs f v) rel)) (hn : i.size = some 2) (s : State) :
    ∃ t, exec i s = .next t ∧
      (t.pc.toNat : Int) = ((s.pc.toNat : Int) + 2 + (if s.flag f = v then rel.toInt else 0)) % 65536 ∧
      t.pcSet = false ∧ KeepsAXYP i s t ∧ t.sp = s.sp ∧ MemoryExcept [] s t := by
  obtain ⟨t, he, hl, hpc, hset⟩ := exec_branch hh hn s
  refine ⟨t, he, ?_, hset, ⟨hl.a, hl.x, hl.y, hl.p, hl.retires⟩, hl.sp, memoryExcept_of_eq hl.mem []⟩
  rw [hpc]
  by_cases h : s.flag f = v
  · rw [if_pos h, if_pos h]
    exact toNat_add_sext8 s.pc rel
  · have h2 : (s.pc + 2).toNat = (s.pc.toNat + 2) % 65536 := BitVec.toNat_add ..
    rw [if_neg h, if_neg h, h2]
    omega

/-- Settles O49: the eight branches by their flag and polarity. -/
theorem conditionalBranches : Obligations.ConditionalBranches := by
  intro s rel f hf
  fin_cases hf
  · exact ⟨rfl, exec_branch_spec (i := .bcc rel) rfl rfl s⟩
  · exact ⟨rfl, exec_branch_spec (i := .bcs rel) rfl rfl s⟩
  · exact ⟨rfl, exec_branch_spec (i := .beq rel) rfl rfl s⟩
  · exact ⟨rfl, exec_branch_spec (i := .bne rel) rfl rfl s⟩
  · exact ⟨rfl, exec_branch_spec (i := .bmi rel) rfl rfl s⟩
  · exact ⟨rfl, exec_branch_spec (i := .bpl rel) rfl rfl s⟩
  · exact ⟨rfl, exec_branch_spec (i := .bvc rel) rfl rfl s⟩
  · exact ⟨rfl, exec_branch_spec (i := .bvs rel) rfl rfl s⟩

/-- Settles O50: the handler assigns `PC` and nothing else. -/
theorem jumpAbsolute : Obligations.JumpAbsolute := by
  intro s w
  obtain ⟨t, he, hl, hpc, hset⟩ := exec_jumps (i := .jmpAbs w) rfl s rfl
  exact ⟨⟨t, he, hpc, hset, ⟨hl.a, hl.x, hl.y, hl.p, hl.retires⟩, hl.sp, memoryExcept_of_eq hl.mem []⟩, rfl,
    raiseUnimplemented_of_marked rfl⟩

/-! ### Call and return (R111, R112) -/

theorem toNat_hiByte (a : Addr) : (hiByte a).toNat = a.toNat / 256 := by
  have h := toNat_wordOf (loByte a) (hiByte a)
  have := (loByte a).isLt
  rw [wordOf_lo_hi] at h
  omega

theorem toNat_loByte (a : Addr) : (loByte a).toNat = a.toNat % 256 := by
  have h := toNat_wordOf (loByte a) (hiByte a)
  have := (loByte a).isLt
  rw [wordOf_lo_hi] at h
  omega

/-- The two cells of a return address are distinct, since `SP` and `SP - 1` are. -/
theorem zext16_ne_pred (sp : Byte) : zext16 sp ≠ zext16 (sp - 1) := by
  rw [ne_eq, zext16_inj]
  bv_omega

/-- JSR: the two bytes of `PC + 3`, the high one at `SP` (R111). -/
theorem exec_jsr (s : State) (w : Addr) :
    ∃ t, exec (.jsr w) s = .next t ∧ t.pc = w ∧ t.pcSet = true ∧ t.sp = s.sp - 2 ∧
      t.memRead (zext16 s.sp) = hiByte (s.pc + 3) ∧ t.memRead (zext16 (s.sp - 1)) = loByte (s.pc + 3) ∧
      MemoryExcept [zext16 s.sp, zext16 (s.sp - 1)] s t ∧ KeepsAXYP (.jsr w) s t := by
  obtain ⟨t, he, hl, hpc, hset⟩ := exec_jumps (i := .jsr w) rfl s rfl
  have hread (a : Addr) : t.memRead a = if a = zext16 (s.sp - 1) then loByte (s.pc + 3)
      else if a = zext16 s.sp then hiByte (s.pc + 3) else s.memRead a := memRead_of_write_write hl.mem a
  refine ⟨t, he, hpc, hset, hl.sp, ?_, ?_, fun a ha => ?_, hl.a, hl.x, hl.y, hl.p, hl.retires⟩
  · rw [hread, if_neg (zext16_ne_pred s.sp), if_pos rfl]
  · rw [hread, if_pos rfl]
  · rw [List.mem_cons, List.mem_singleton, not_or] at ha
    obtain ⟨h1, h2⟩ := ha
    rw [hread, if_neg h2, if_neg h1]

/-- The bytes of the return address, as numbers. -/
theorem toNat_returnBytes (pc : Addr) :
    (hiByte (pc + 3)).toNat = (pc.toNat + 3) % 65536 / 256 ∧ (loByte (pc + 3)).toNat = (pc.toNat + 3) % 256 := by
  have h3 : (pc + 3).toNat = (pc.toNat + 3) % 65536 := BitVec.toNat_add ..
  rw [toNat_hiByte, toNat_loByte, h3]
  omega

/-- Settles O51: JSR's two stores, with the bytes as numbers. -/
theorem jumpToSubroutine : Obligations.JumpToSubroutine := by
  intro s w
  obtain ⟨t, he, hpc, hset, hsp, hhi, hlo, hm, hk⟩ := exec_jsr s w
  obtain ⟨hhiNat, hloNat⟩ := toNat_returnBytes s.pc
  exact ⟨⟨t, he, hpc, hset, hsp, by rw [hhi, hhiNat], by rw [hlo, hloNat], hm, hk⟩, rfl⟩

/-- RTS: `PC` is the word it reads one above and two above the old `SP` (R112). -/
theorem exec_rts (s : State) :
    ∃ t, exec .rts s = .next t ∧ t.sp = s.sp + 2 ∧
      t.pc = wordOf (s.memRead (zext16 (s.sp + 1))) (s.memRead (zext16 (s.sp + 2))) ∧
      t.pcSet = true ∧ KeepsAXYP .rts s t ∧ t.mem = s.mem := by
  obtain ⟨t, he, hl, hpc, hset⟩ := exec_jumps (i := .rts) rfl s rfl
  exact ⟨t, he, hl.sp, hpc.trans (returnAddr_eq s.beginStep), hset, ⟨hl.a, hl.x, hl.y, hl.p, hl.retires⟩, hl.mem⟩

/-- Settles O52: RTS's word as a number. -/
theorem returnFromSubroutine : Obligations.ReturnFromSubroutine := by
  refine ⟨fun s => ?_, rfl⟩
  obtain ⟨t, he, hsp, hpc, hset, hk, hm⟩ := exec_rts s
  refine ⟨t, he, hsp, ?_, hset, hk, memoryExcept_of_eq hm []⟩
  rw [hpc, toNat_wordOf, Nat.add_comm, Nat.mul_comm]

/-- Settles O53: RTS raises `SP` back to the cells that hold the two bytes of the return address. -/
theorem returnUndoesCall : Obligations.ReturnUndoesCall := by
  intro s t u w he hsp hm
  obtain ⟨-, -, htsp, hhi, hlo, -⟩ := of_exec (exec_jsr s w) he
  obtain ⟨v, hv, hvsp, hvpc, -⟩ := exec_rts u
  have h1 : u.sp + 1 = s.sp - 1 := by
    rw [hsp, htsp]
    bv_omega
  have h2 : u.sp + 2 = s.sp := by
    rw [hsp, htsp]
    bv_omega
  refine ⟨v, hv, ?_, hvsp.trans h2⟩
  rw [hvpc, h1, h2, hm _ (by simp), hm _ (by simp), hhi, hlo, wordOf_lo_hi]

/-! ### Push and pull (R115 to R119) -/

/-- An instruction whose handler pushes one byte and does nothing else. -/
theorem exec_push {i : Instr} {h : State → State} {v : Byte} (hh : handlerOf i = some h) (hn : i.size = some 1) (s : State)
    (hw : h s.beginStep = s.beginStep.push v) :
    ∃ t, exec i s = .next t ∧ t.sp = s.sp - 1 ∧ t.memRead (zext16 (s.sp - 1)) = v ∧
      MemoryExcept [zext16 (s.sp - 1)] s t ∧ KeepsAXYP i s t ∧ Advances 1 s t := by
  obtain ⟨t, he, hl, hpc, hset⟩ := exec_advances hh hn s (by rw [hw]; rfl)
  rw [hw] at hl hpc
  obtain ⟨hv, hm⟩ := memory_of_write hl.mem
  exact ⟨t, he, hl.sp, hv, hm, ⟨hl.a, hl.x, hl.y, hl.p, hl.retires⟩, hpc, hset⟩

theorem exec_pha (s : State) :
    ∃ t, exec .pha s = .next t ∧ t.sp = s.sp - 1 ∧ t.memRead (zext16 (s.sp - 1)) = s.a ∧
      MemoryExcept [zext16 (s.sp - 1)] s t ∧ KeepsAXYP .pha s t ∧ Advances 1 s t :=
  exec_push rfl rfl s rfl

theorem exec_php (s : State) :
    ∃ t, exec .php s = .next t ∧ t.sp = s.sp - 1 ∧ t.memRead (zext16 (s.sp - 1)) = s.p ∧
      MemoryExcept [zext16 (s.sp - 1)] s t ∧ KeepsAXYP .php s t ∧ Advances 1 s t :=
  exec_push rfl rfl s rfl

/-- Settles O54: each is one push. -/
theorem pushInstructions : Obligations.PushInstructions := by
  refine ⟨fun s f hf => ?_, rfl, rfl⟩
  fin_cases hf
  · exact exec_pha s
  · exact exec_php s

/-- PLA (R118), for both values of its parameter. -/
theorem exec_pla (s : State) :
    ∃ t, exec .pla s = .next t ∧ t.a = s.memRead (zext16 s.sp) ∧ t.sp = s.sp + 1 ∧
      (s.params.plaUpdatesZN = true → ZNFollow t.a [] s t) ∧ (s.params.plaUpdatesZN = false → t.p = s.p) ∧
      t.x = s.x ∧ t.y = s.y ∧ MemoryExcept [] s t ∧ Advances 1 s t ∧ Retires .pla s t := by
  obtain ⟨t, he, hl, hpc, hset⟩ := exec_advances (i := .pla) rfl rfl s rfl
  refine ⟨t, he, hl.a, hl.sp, fun hpar => ?_, fun hpar => ?_, hl.x, hl.y, memoryExcept_of_eq hl.mem [], ⟨hpc, hset⟩,
    hl.retires⟩
  · rw [hl.a]
    exact znFollow_of_setZN [] (hl.p.trans (if_pos hpar))
  · exact hl.p.trans (if_neg (Bool.eq_false_iff.1 hpar))

/-- Settles O55. -/
theorem pullAccumulator : Obligations.PullAccumulator := ⟨exec_pla, rfl⟩

/-- PLP (R119). -/
theorem exec_plp (s : State) :
    ∃ t, exec .plp s = .next t ∧ t.p = pulledStatus (s.memRead (zext16 s.sp)) ∧ t.sp = s.sp + 1 ∧
      t.a = s.a ∧ t.x = s.x ∧ t.y = s.y ∧ MemoryExcept [] s t ∧ Advances 1 s t ∧ Retires .plp s t := by
  obtain ⟨t, he, hl, hpc, hset⟩ := exec_advances (i := .plp) rfl rfl s rfl
  exact ⟨t, he, hl.p, hl.sp, hl.a, hl.x, hl.y, memoryExcept_of_eq hl.mem [], ⟨hpc, hset⟩, hl.retires⟩

/-- Settles O56: PLP's status byte, flag by flag. -/
theorem pullStatus : Obligations.PullStatus := by
  refine ⟨fun s => ?_, rfl⟩
  obtain ⟨t, he, hp, hsp, hrest⟩ := exec_plp s
  have hflag (f : Flag) : t.flag f = flagOf (pulledStatus (s.memRead (zext16 s.sp))) f := congrArg (flagOf · f) hp
  refine ⟨t, he, hsp, by rw [hflag, flagOf_pulledStatus], by rw [hflag, flagOf_pulledStatus], fun f hf => ?_, hrest⟩
  rw [hflag, flagOf_pulledStatus]
  cases f with
  | r | b => simp at hf
  | c | z | i | d | v | n => rfl

/-- Equal flags are equal status bytes. -/
theorem eq_of_flagOf {p q : Byte} (h : ∀ f, flagOf p f = flagOf q f) : p = q := by
  refine BitVec.eq_of_getLsbD_eq fun k hk => ?_
  match k, hk with
  | 0, _ => exact h .c
  | 1, _ => exact h .z
  | 2, _ => exact h .i
  | 3, _ => exact h .d
  | 4, _ => exact h .b
  | 5, _ => exact h .r
  | 6, _ => exact h .v
  | 7, _ => exact h .n

/-- A status byte with bit 5 set and bit 4 clear is pulled as it is (R15, R119). -/
theorem pulledStatus_of_reserved {p : Byte} (hr : flagOf p .r = true) (hb : flagOf p .b = false) : pulledStatus p = p := by
  refine eq_of_flagOf fun f => ?_
  rw [flagOf_pulledStatus]
  cases f with
  | r => exact hr.symm
  | b => exact hb.symm
  | c | z | i | d | v | n => rfl

/-- Settles O57: the pull reads the pushed cell, and raises `SP` by what the push lowered it. -/
theorem pullUndoesPush : Obligations.PullUndoesPush := by
  intro s t u hsp hm
  refine ⟨fun he => ?_, fun he hr hb => ?_⟩
  · obtain ⟨htsp, hcell, -⟩ := of_exec (exec_pha s) he
    obtain ⟨v, hv, hva, hvsp, -⟩ := exec_pla u
    refine ⟨v, hv, ?_, ?_⟩
    · rw [hva, hsp, hm, htsp, hcell]
    · rw [hvsp, hsp, htsp, BitVec.sub_add_cancel]
  · obtain ⟨htsp, hcell, -⟩ := of_exec (exec_php s) he
    obtain ⟨v, hv, hvp, hvsp, -⟩ := exec_plp u
    refine ⟨v, hv, ?_, ?_⟩
    · rw [hvp, hsp, hm, htsp, hcell, pulledStatus_of_reserved hr hb]
    · rw [hvsp, hsp, htsp, BitVec.sub_add_cancel]

/-- Settles O58: the call stores its high byte at the `SP` that the push left, which RTS restores and PLA then reads. -/
theorem callOverwritesThePushedByte : Obligations.CallOverwritesThePushedByte := by
  intro s t1 t2 t3 t4 w h1 h2 h3 h4
  obtain ⟨hsp1, hpushed, -⟩ := of_exec (exec_pha s) h1
  obtain ⟨-, -, hsp2, hhi, hlo, -⟩ := of_exec (exec_jsr t1 w) h2
  obtain ⟨hsp3, hpc3, -, -, hmem3⟩ := of_exec (exec_rts t2) h3
  obtain ⟨ha4, hsp4, -⟩ := of_exec (exec_pla t3) h4
  have hlow : t2.sp + 1 = t1.sp - 1 := by
    rw [hsp2]
    bv_omega
  have hhigh : t2.sp + 2 = t1.sp := by
    rw [hsp2]
    bv_omega
  have hback : t3.sp = t1.sp := hsp3.trans hhigh
  refine ⟨hsp1 ▸ hpushed, hhi, ?_, hback, ?_, ?_⟩
  · rw [hpc3, hlow, hhigh, hlo, hhi, wordOf_lo_hi]
  · rw [ha4, hback, State.memRead_congr hmem3, hhi]
  · rw [hsp4, hback, hsp1, BitVec.sub_add_cancel]

/-! ### The stack's place in memory (R49) -/

/-- No cell from 0x0100 on is a stack address. -/
theorem ne_zext16_of_le {b : Addr} (hb : 0x100 ≤ b.toNat) (v : Byte) : b ≠ zext16 v := by
  rintro rfl
  have hv : (zext16 v).toNat = v.toNat := BitVec.toNat_setWidth_of_le (by decide)
  have := v.isLt
  omega

/-- A push or a call changes no byte from 0x0100 on. -/
theorem exec_stack_above {i : Instr} {s t : State} {a : Addr} (hi : i ∈ [Instr.pha, .php, .jsr a])
    (he : exec i s = .next t) {b : Addr} (hb : 0x100 ≤ b.toNat) : t.memRead b = s.memRead b := by
  have hne := ne_zext16_of_le hb
  fin_cases hi
  · obtain ⟨-, -, hm, -⟩ := of_exec (exec_pha s) he
    exact hm b (by simp [hne])
  · obtain ⟨-, -, hm, -⟩ := of_exec (exec_php s) he
    exact hm b (by simp [hne])
  · obtain ⟨-, -, -, -, -, hm, -⟩ := of_exec (exec_jsr s a) he
    exact hm b (by simp [hne])

/-- Settles O33: the cells a push and a call write are zero-extended stack pointers; at `SP` 0xFD they are these two. -/
theorem stackLiesInTheFirst256Cells : Obligations.StackLiesInTheFirst256Cells := by
  refine ⟨fun s t a ⟨i, hi, he⟩ b => exec_stack_above hi he, fun s t hsp => ⟨fun he => ?_, fun he => ?_, fun a he => ?_⟩,
    fun s u t hu => ?_⟩
  · obtain ⟨-, hv, hm, -⟩ := of_exec (exec_pha s) he
    rw [hsp] at hv hm
    exact ⟨hm, hv⟩
  · obtain ⟨-, hv, hm, -⟩ := of_exec (exec_php s) he
    rw [hsp] at hv hm
    exact ⟨hm, hv⟩
  · obtain ⟨-, -, -, hhi, hlo, hm, -⟩ := of_exec (exec_jsr s a) he
    obtain ⟨hhiNat, hloNat⟩ := toNat_returnBytes s.pc
    rw [hsp] at hhi hlo hm
    exact ⟨hm, (congrArg BitVec.toNat hhi).trans hhiNat, (congrArg BitVec.toNat hlo).trans hloNat⟩
  · cases hu
    have hsp : (resetState s).sp = 0xFD := rfl
    refine ⟨hsp, fun a he => ?_⟩
    obtain ⟨-, -, -, hhi, hlo, -⟩ := of_exec (exec_jsr (resetState s) a) he
    rw [hsp] at hhi hlo
    exact ⟨hhi.trans (by decide : hiByte (0xC000 + 3) = 0xC0), hlo.trans (by decide : loByte (0xC000 + 3) = 0x03)⟩

/-! ### Flag instructions and NOP (R120 to R126) -/

/-- A flag instruction that sets its flag. -/
theorem exec_setFlagOf {i : Instr} {f : Flag} (hh : handlerOf i = some (setFlagOf f)) (hn : i.size = some 1) (s : State) :
    ∃ t, exec i s = .next t ∧ t.flag f = true ∧ OnlyFlags 1 [f] i s t := by
  obtain ⟨t, he, hp, honly⟩ := exec_setsP hh hn s rfl
  have hflag (g : Flag) : t.flag g = (setFlagOf f s).flag g := congrArg (flagOf · g) hp
  refine ⟨t, he, ?_, honly [f] fun g hg => (hflag g).trans (flagsExcept_set f s g hg)⟩
  rw [hflag, State.flag, setFlagOf, State.setP_p, flagOf_setFlag, decide_eq_true rfl, Bool.true_or]

/-- A flag instruction that clears its flag. -/
theorem exec_clearFlagOf {i : Instr} {f : Flag} (hh : handlerOf i = some (clearFlagOf f)) (hn : i.size = some 1)
    (s : State) : ∃ t, exec i s = .next t ∧ t.flag f = false ∧ OnlyFlags 1 [f] i s t := by
  obtain ⟨t, he, hp, honly⟩ := exec_setsP hh hn s rfl
  have hflag (g : Flag) : t.flag g = (clearFlagOf f s).flag g := congrArg (flagOf · g) hp
  refine ⟨t, he, ?_, honly [f] fun g hg => (hflag g).trans (flagsExcept_clear f s g hg)⟩
  rw [hflag, State.flag, clearFlagOf, State.setP_p, flagOf_clearFlag, decide_eq_true rfl, Bool.not_true, Bool.false_and]

/-- Settles O59: each sets or clears its flag. -/
theorem flagInstructions : Obligations.FlagInstructions := by
  intro s f hf
  fin_cases hf
  · exact ⟨rfl, exec_setFlagOf (i := .sec) rfl rfl s⟩
  · exact ⟨rfl, exec_clearFlagOf (i := .clc) rfl rfl s⟩
  · exact ⟨rfl, exec_setFlagOf (i := .sei) rfl rfl s⟩
  · exact ⟨rfl, exec_setFlagOf (i := .sed) rfl rfl s⟩
  · exact ⟨rfl, exec_clearFlagOf (i := .cld) rfl rfl s⟩
  · exact ⟨rfl, exec_clearFlagOf (i := .clv) rfl rfl s⟩

/-- Settles O60: NOP's handler does nothing, so what is left is the step around it. -/
theorem noOperation : Obligations.NoOperation := ⟨fun _ => rfl, rfl⟩

end Sys2Proof.Machine
end
